-- ==== Sys2Proof/Word.lean ====
section
/-! DEFINITION. The value types of 00_scope.md rule R12: bytes, 16-bit values, nibbles, and the two fixed-size
frames of 30_encoding.md rules R55 and R58. Bit 0 is the least significant bit of each. -/

namespace Sys2Proof

/-- R12: an 8-bit unsigned value. -/
abbrev Byte := BitVec 8

/-- A 4-bit field: an address, a command value, four output lines, the reserved bits (R55). -/
abbrev Nibble := BitVec 4

/-- R12: a 16-bit value. `u16` reads it unsigned and `s16` reads it as two's complement; the block only stores and
copies it (R13). -/
abbrev Half := BitVec 16

/-- R9, R55: a request frame, N_REQ = 3 bytes, offset 0 first. -/
abbrev Frame := Vector Byte 3

/-- R9, R58: a response frame, N_RESP = 8 bytes, offset 0 first. -/
abbrev Response := Vector Byte 8

end Sys2Proof
end

