-- ==== Sys2Proof/Config.lean ====
section
/-! DEFINITION. The implementation parameters of 00_scope.md rules R6 to R11. DEV_ADDR, T_RX_TIMEOUT and ERR_CODES are
open: the model takes them as data (assumption log 1), and a statement over all states holds for every value of them.
CMD_CODES is fixed at the values of R10 (log 3). There is no free value: the spec leaves no result undefined. -/

namespace Sys2Proof

/-- R11: the error-latch values, seven names with seven distinct 8-bit values. -/
structure ErrCodes where
  noError : Byte
  parity : Byte
  noise : Byte
  framing : Byte
  overrun : Byte
  dma : Byte
  incorrectCommand : Byte
  distinct : decide [noError, parity, noise, framing, overrun, dma, incorrectCommand].Nodup = true
  deriving DecidableEq, Repr

/-- The seven codes as a list: what ERR may hold (30_encoding.md rule R69). -/
def ErrCodes.all (c : ErrCodes) : List Byte :=
  [c.noError, c.parity, c.noise, c.framing, c.overrun, c.dma, c.incorrectCommand]

/-- R11, R69: the reference assignment, 0x00 to 0x06. Only an illustration (92_eei_decisions.md D3; log 2). -/
def ErrCodes.reference : ErrCodes :=
  { noError := 0x00#8, parity := 0x01#8, noise := 0x02#8, framing := 0x03#8, overrun := 0x04#8, dma := 0x05#8,
    incorrectCommand := 0x06#8, distinct := by decide }

/-- The parameters as an integrator gives them, before R6 and R7 are checked. -/
structure Params where
  devAddr : Nat
  tRxTimeout : Nat
  errCodes : ErrCodes
  deriving DecidableEq, Repr

/-- R6: 1 <= DEV_ADDR <= 15. R7: T_RX_TIMEOUT >= 1. -/
def Params.valid (p : Params) : Bool :=
  decide (1 ≤ p.devAddr) && decide (p.devAddr ≤ 15) && decide (1 ≤ p.tRxTimeout)

/-- A configuration the block can be built with. There is no value of this type outside R6 and R7: "no state exists"
(60_exceptions.md rule R144, CONFIG_INVALID). -/
structure Config where
  params : Params
  ok : params.valid = true
  deriving DecidableEq, Repr

namespace Config

/-- R6: DEV_ADDR, a 4-bit constant. -/
def devAddr (c : Config) : Nibble := BitVec.ofNat 4 c.params.devAddr

/-- R7: T_RX_TIMEOUT, in ticks. -/
def tRxTimeout (c : Config) : Nat := c.params.tRxTimeout

/-- R11: ERR_CODES. -/
def errCodes (c : Config) : ErrCodes := c.params.errCodes

/-- DESIGN CHOICE (log 2): the configuration State.reset is given, the one the derived vectors of 95_test_vectors.md
use: DEV_ADDR = 1, T_RX_TIMEOUT = 3 and the reference ERR_CODES. -/
def reference : Config :=
  { params := { devAddr := 1, tRxTimeout := 3, errCodes := ErrCodes.reference }, ok := by decide }

/-- R8: TICK_PERIOD, the nominal interval between TICK events, in milliseconds. No rule of the machine reads it. -/
def tickPeriodMs : Nat := 1

/-- 41_receiver.md rule R100, 70_reset_and_hazards.md rule R173: the nominal time from a first byte to its timeout abort
lies between these two bounds, in milliseconds. -/
def abortWindowMs (c : Config) : Nat × Nat :=
  ((c.tRxTimeout - 1) * tickPeriodMs, c.tRxTimeout * tickPeriodMs)

end Config

/-- R10: the CMD_CODES value of SEND_DATA (92_eei_decisions.md D2; log 3). -/
def cmdSendData : Nibble := 0x0#4

/-- R10: the CMD_CODES value of UPDATE_OUTPUTS, the one a source literal supports. -/
def cmdUpdateOutputs : Nibble := 0x1#4

/-- R10: the CMD_CODES value of ERROR_RESET (92_eei_decisions.md D2; log 3). -/
def cmdErrorReset : Nibble := 0x2#4

end Sys2Proof
end

