-- ==== Sys2Proof/Syntax.lean ====
section
/-! DEFINITION. The operations of the block as syntax: the input events of 30_encoding.md rule R67 and `Instr`, with one
constructor for each row of opcode_table.json (16 request commands, 11 event rows, 3 internal operations). -/

namespace Sys2Proof

/-- 10_state.md rule R21: the two values of the reception cursor. It also selects the row of an RX_DONE or TICK event
(41_receiver.md rule R90). -/
inductive Cursor where
  | waitFirst
  | inProgress
  deriving DecidableEq, Repr

/-- R68: the five fault notifications the latch recognises. -/
inductive TransportFault where
  | parity
  | noise
  | framing
  | overrun
  | dma
  deriving DecidableEq, Repr

/-- R68: FaultKind. `other x` is any notification that is none of the five; `x` only tells such notifications apart
(log 13). -/
inductive FaultKind where
  | recognised (k : TransportFault)
  | other (x : Nat)
  deriving DecidableEq, Repr

/-- R67: the input events. `rxDone d` carries the delivered bytes, in the order they arrived. -/
inductive Event where
  | start
  | rxDone (d : List Byte)
  | tick
  | fault (k : FaultKind)
  | setTemp (v : Half)
  | setVolt (v : Half)
  | setButton (b : Bool)
  | txDone
  deriving DecidableEq, Repr

/-- R9: the four output lines, numbered 1 to 4. -/
inductive Line where
  | line1
  | line2
  | line3
  | line4
  deriving DecidableEq, Repr

/-- The lines in the order 1 to 4 (42_dispatcher.md rule R112). -/
def Line.all : List Line := [.line1, .line2, .line3, .line4]

/-- R55: the fields of a request frame other than the command nibble, which the constructor of `Instr` stands for. Bit
i - 1 of `leds` is `led<i>On`. -/
structure Request where
  addr : Nibble
  leds : Nibble
  reserved : Nibble
  crc : Byte
  deriving DecidableEq, Repr

/-- The rows of opcode_table.json. -/
inductive Instr where
  | sendData (r : Request)
  | updateOutputs (r : Request)
  | errorReset (r : Request)
  | cmdUnrecognised3 (r : Request)
  | cmdUnrecognised4 (r : Request)
  | cmdUnrecognised5 (r : Request)
  | cmdUnrecognised6 (r : Request)
  | cmdUnrecognised7 (r : Request)
  | cmdUnrecognised8 (r : Request)
  | cmdUnrecognised9 (r : Request)
  | cmdUnrecognisedA (r : Request)
  | cmdUnrecognisedB (r : Request)
  | cmdUnrecognisedC (r : Request)
  | cmdUnrecognisedD (r : Request)
  | cmdUnrecognisedE (r : Request)
  | cmdUnrecognisedF (r : Request)
  | start
  | rxDoneFirst (d : List Byte)
  | rxDoneRemainder (d : List Byte)
  | tickWait
  | tickInProgress
  | faultRecognised (k : TransportFault)
  | faultOther (x : Nat)
  | setTemp (v : Half)
  | setVolt (v : Half)
  | setButton (b : Bool)
  | txDone
  | crc8 (data : List Byte)
  | crc16 (data : List Byte)
  | buildAndSend
  deriving DecidableEq, Repr

end Sys2Proof
end

