-- ==== Sys2Proof/WellFormed.lean ====
section
/-! DEFINITION. Which terms of `Instr` the rows of opcode_table.json admit. Every width and range is kept by the types; the
two receive rows fix the length of the delivered byte list ("|d| = 1", "|d| = 2"). An ill-formed delivery is not refused
by the machine: it raises RX_UNARMED (41_receiver.md rule R99). -/

namespace Sys2Proof

/-- The operand checks of the opcode table. -/
def Instr.wellFormed : Instr → Bool
  | .sendData _ => true
  | .updateOutputs _ => true
  | .errorReset _ => true
  | .cmdUnrecognised3 _ => true
  | .cmdUnrecognised4 _ => true
  | .cmdUnrecognised5 _ => true
  | .cmdUnrecognised6 _ => true
  | .cmdUnrecognised7 _ => true
  | .cmdUnrecognised8 _ => true
  | .cmdUnrecognised9 _ => true
  | .cmdUnrecognisedA _ => true
  | .cmdUnrecognisedB _ => true
  | .cmdUnrecognisedC _ => true
  | .cmdUnrecognisedD _ => true
  | .cmdUnrecognisedE _ => true
  | .cmdUnrecognisedF _ => true
  | .start => true
  | .rxDoneFirst d => d.length == 1
  | .rxDoneRemainder d => d.length == 2
  | .tickWait => true
  | .tickInProgress => true
  | .faultRecognised _ => true
  | .faultOther _ => true
  | .setTemp _ => true
  | .setVolt _ => true
  | .setButton _ => true
  | .txDone => true
  | .crc8 _ => true
  | .crc16 _ => true
  | .buildAndSend => true

end Sys2Proof
end

