-- ==== Sys2Proof/Decode.lean ====
section
/-! DEFINITION. Decoding and encoding. A request frame is decoded from its bytes by its command nibble
(30_encoding.md rules R55 to R57, R60, R61); an event row is selected by the event and CURSOR (41_receiver.md rule R90). -/

namespace Sys2Proof

/-! ## The fields of a request frame (30_encoding.md rule R56) -/

/-- R42(a), R55: line i has bit i - 1 of its field. -/
def Line.bit : Line → Nat
  | .line1 => 0
  | .line2 => 1
  | .line3 => 2
  | .line4 => 3

/-- R56: ADDR(f) = f0[3:0]. -/
def addrOf (f : Frame) : Nibble := f[0].extractLsb' 0 4

/-- R56: CMD(f) = f0[7:4]. -/
def cmdOf (f : Frame) : Nibble := f[0].extractLsb' 4 4

/-- R55: led1On..led4On, f1[3:0]. -/
def ledsOf (f : Frame) : Nibble := f[1].extractLsb' 0 4

/-- R56: LED_REQ(f, i) = f1[i-1]. -/
def ledReq (f : Frame) (l : Line) : Bool := f[1].getLsbD l.bit

/-- R56: RSVD(f) = f1[7:4]. -/
def rsvdOf (f : Frame) : Nibble := f[1].extractLsb' 4 4

/-- R56: CRCB(f) = f2. -/
def crcbOf (f : Frame) : Byte := f[2]

/-- The operands of a command row. -/
def requestOf (f : Frame) : Request :=
  { addr := addrOf f, leds := ledsOf f, reserved := rsvdOf f, crc := crcbOf f }

/-- R57: the frame as the 24-bit word W = f2 : f1 : f0 of the opcode table. -/
def frameWord (f : Frame) : BitVec 24 := f[2] ++ f[1] ++ f[0]

/-- R57 read the other way: the frame whose word is W. -/
def wordFrame (w : BitVec 24) : Frame := #v[w.extractLsb' 0 8, w.extractLsb' 8 8, w.extractLsb' 16 8]

/-! ## The command rows -/

/-- A request24 row of opcode_table.json: the CMD value it matches and the instruction it stands for. -/
structure CommandRow where
  mnemonic : String
  code : Nibble
  build : Request → Instr

/-- R57: the mask of every command row. -/
def commandMask : BitVec 24 := 0x0000F0#24

/-- R57: the match of a command row, CMD << 4. -/
def CommandRow.matchWord (r : CommandRow) : BitVec 24 := r.code.setWidth 24 <<< 4

/-- R60, R61: the 16 command rows of opcode_table.json, in its order. -/
def commandTable : List CommandRow :=
  [ ⟨"SEND_DATA", 0x0#4, .sendData⟩,
    ⟨"UPDATE_OUTPUTS", 0x1#4, .updateOutputs⟩,
    ⟨"ERROR_RESET", 0x2#4, .errorReset⟩,
    ⟨"CMD_UNRECOGNISED_3", 0x3#4, .cmdUnrecognised3⟩,
    ⟨"CMD_UNRECOGNISED_4", 0x4#4, .cmdUnrecognised4⟩,
    ⟨"CMD_UNRECOGNISED_5", 0x5#4, .cmdUnrecognised5⟩,
    ⟨"CMD_UNRECOGNISED_6", 0x6#4, .cmdUnrecognised6⟩,
    ⟨"CMD_UNRECOGNISED_7", 0x7#4, .cmdUnrecognised7⟩ ] ++
  [ ⟨"CMD_UNRECOGNISED_8", 0x8#4, .cmdUnrecognised8⟩,
    ⟨"CMD_UNRECOGNISED_9", 0x9#4, .cmdUnrecognised9⟩,
    ⟨"CMD_UNRECOGNISED_A", 0xA#4, .cmdUnrecognisedA⟩,
    ⟨"CMD_UNRECOGNISED_B", 0xB#4, .cmdUnrecognisedB⟩,
    ⟨"CMD_UNRECOGNISED_C", 0xC#4, .cmdUnrecognisedC⟩,
    ⟨"CMD_UNRECOGNISED_D", 0xD#4, .cmdUnrecognisedD⟩,
    ⟨"CMD_UNRECOGNISED_E", 0xE#4, .cmdUnrecognisedE⟩,
    ⟨"CMD_UNRECOGNISED_F", 0xF#4, .cmdUnrecognisedF⟩ ]

/-- R60: the row whose CMD value the frame carries. R61: there is always one (`decodeFrame_isSome` in Laws). -/
def decodeFrame (f : Frame) : Option Instr :=
  (commandTable.find? fun r => r.code == cmdOf f).map fun r => r.build (requestOf f)

/-- Why a byte list is not decoded. -/
inductive DecodeError where
  /-- Fewer than N_REQ = 3 bytes: frames have a fixed length (R66). -/
  | truncated (length : Nat)
  /-- No row matches the command nibble. R61 says this never happens. -/
  | noCommandRow
  deriving DecidableEq, Repr

/-- Decodes the request frame at the front of a byte list (R43: offset 0 first) and returns the bytes after it. -/
def decode : List Byte → Except DecodeError (Instr × List Byte)
  | b0 :: b1 :: b2 :: rest =>
    match decodeFrame #v[b0, b1, b2] with
    | some i => .ok (i, rest)
    | none => .error .noCommandRow
  | [b0, b1] => .error (.truncated [b0, b1].length)
  | [b0] => .error (.truncated [b0].length)
  | [] => .error (.truncated 0)

/-! ## The event rows -/

/-- The row of an event in a phase. R90: CURSOR alone selects the phase of RX_DONE; R97, R98: and of TICK. -/
def decodeEvent (phase : Cursor) : Event → Instr
  | .start => .start
  | .rxDone d =>
    match phase with
    | .waitFirst => .rxDoneFirst d
    | .inProgress => .rxDoneRemainder d
  | .tick =>
    match phase with
    | .waitFirst => .tickWait
    | .inProgress => .tickInProgress
  | .fault (.recognised k) => .faultRecognised k
  | .fault (.other x) => .faultOther x
  | .setTemp v => .setTemp v
  | .setVolt v => .setVolt v
  | .setButton b => .setButton b
  | .txDone => .txDone

/-! ## The three formats of the opcode table -/

/-- The encoding of an instruction in the format its row names: `request24`, `event` (with the phase its row asks for), or
`internal`. -/
inductive Code where
  | request24 (f : Frame)
  | event (phase : Cursor) (e : Event)
  | callCrc8 (data : List Byte)
  | callCrc16 (data : List Byte)
  | callBuildAndSend
  deriving DecidableEq, Repr

/-- The instruction an encoding stands for. -/
def decodeCode : Code → Except DecodeError Instr
  | .request24 f =>
    match decodeFrame f with
    | some i => .ok i
    | none => .error .noCommandRow
  | .event phase e => .ok (decodeEvent phase e)
  | .callCrc8 data => .ok (.crc8 data)
  | .callCrc16 data => .ok (.crc16 data)
  | .callBuildAndSend => .ok .buildAndSend

/-- R12, R42(a): the byte `high : low`. -/
def joinNibbles (high low : Nibble) : Byte := high ++ low

/-- R55: the frame with command value `cmd` and the other fields of `r`. -/
def frameOf (cmd : Nibble) (r : Request) : Frame := #v[joinNibbles cmd r.addr, joinNibbles r.reserved r.leds, r.crc]

/-- The encoding of every instruction, from the table's encoding column. A row that no phase selects is given the phase
WAIT_FIRST. -/
def encode : Instr → Code
  | .sendData r => .request24 (frameOf 0x0#4 r)
  | .updateOutputs r => .request24 (frameOf 0x1#4 r)
  | .errorReset r => .request24 (frameOf 0x2#4 r)
  | .cmdUnrecognised3 r => .request24 (frameOf 0x3#4 r)
  | .cmdUnrecognised4 r => .request24 (frameOf 0x4#4 r)
  | .cmdUnrecognised5 r => .request24 (frameOf 0x5#4 r)
  | .cmdUnrecognised6 r => .request24 (frameOf 0x6#4 r)
  | .cmdUnrecognised7 r => .request24 (frameOf 0x7#4 r)
  | .cmdUnrecognised8 r => .request24 (frameOf 0x8#4 r)
  | .cmdUnrecognised9 r => .request24 (frameOf 0x9#4 r)
  | .cmdUnrecognisedA r => .request24 (frameOf 0xA#4 r)
  | .cmdUnrecognisedB r => .request24 (frameOf 0xB#4 r)
  | .cmdUnrecognisedC r => .request24 (frameOf 0xC#4 r)
  | .cmdUnrecognisedD r => .request24 (frameOf 0xD#4 r)
  | .cmdUnrecognisedE r => .request24 (frameOf 0xE#4 r)
  | .cmdUnrecognisedF r => .request24 (frameOf 0xF#4 r)
  | .start => .event .waitFirst .start
  | .rxDoneFirst d => .event .waitFirst (.rxDone d)
  | .rxDoneRemainder d => .event .inProgress (.rxDone d)
  | .tickWait => .event .waitFirst .tick
  | .tickInProgress => .event .inProgress .tick
  | .faultRecognised k => .event .waitFirst (.fault (.recognised k))
  | .faultOther x => .event .waitFirst (.fault (.other x))
  | .setTemp v => .event .waitFirst (.setTemp v)
  | .setVolt v => .event .waitFirst (.setVolt v)
  | .setButton b => .event .waitFirst (.setButton b)
  | .txDone => .event .waitFirst .txDone
  | .crc8 data => .callCrc8 data
  | .crc16 data => .callCrc16 data
  | .buildAndSend => .callBuildAndSend

/-- The bytes of a request frame as they go on the wire, offset 0 first (R43). -/
def frameBytes (f : Frame) : List Byte := [f[0], f[1], f[2]]

/-! ## The table's words -/

/-- The request frame whose bits are `w`, numbered as opcode_table.json numbers them, with every bit from `nbits` up to the
24th zero. `none` where no request frame has `nbits` bits. -/
def tableFrame (nbits w : Nat) : Option Frame :=
  if 1 ≤ nbits ∧ nbits ≤ 24 then some (wordFrame (BitVec.ofNat 24 (w % 2 ^ nbits))) else none

/-- The instruction the decoder reads from an opcode-table word. -/
def decodeTableWord (nbits w : Nat) : Option Instr :=
  match tableFrame nbits w with
  | none => none
  | some f =>
    match decode (frameBytes f) with
    | .ok (i, _) => some i
    | .error _ => none

end Sys2Proof
end

