-- ==== Sys2Proof/Machine/State.lean ====
section
/-! DEFINITION. The state of the block: the record of 10_state.md rule R20, the configuration it was built with, and the
machine's inputs and outputs. Everything is plain data. -/

namespace Sys2Proof.Machine

/-- 60_exceptions.md rule R144: the kinds a state's FAULTED mark can hold. CONFIG_INVALID is not among them: no state exists
for it, and `Refusal.configInvalid` stands for it. -/
inductive ModelFaultKind where
  /-- RX_DONE, TICK, FAULT or TX_DONE while STARTED = false. -/
  | eventBeforeStart
  /-- RX_DONE with nothing armed, or with a length other than the armed one. -/
  | rxUnarmed
  /-- A response is due while TX_BUSY = true. -/
  | txOverlap
  /-- TX_DONE while TX_BUSY = false. -/
  | txDoneUnexpected
  deriving DecidableEq, Repr

/-- R33: LINK_RX, NONE or ARMED(off, len). -/
inductive LinkRx where
  | none
  | armed (off len : Nat)
  deriving DecidableEq, Repr

/-- 30_encoding.md rule R67: the output actions. -/
inductive Action where
  | armRx (off len : Nat)
  | abortRx
  | tx (frame : Response)
  | setLine (line : Line) (on : Bool)
  deriving DecidableEq, Repr

/-- What a CRC engine answers when it is called by itself (40_crc.md rules R81, R82). -/
inductive CheckValue where
  | crc8 (v : Byte)
  | crc16 (v : Half)
  deriving DecidableEq, Repr

/-- The state. The fields from `cursor` to `faulted` are the record of R20. `cfg` is the configuration: no event writes it
(R31; log 1). `inbox`, `actions` and `result` are the model's own (log 4, 5, 6). -/
structure State where
  /-- DEV_ADDR, T_RX_TIMEOUT and ERR_CODES (00_scope.md rules R6, R7, R11). -/
  cfg : Config
  /-- R21. -/
  cursor : Cursor
  /-- R22. -/
  rxTicks : Nat
  /-- R24. -/
  rxbuf : Vector Byte 3
  /-- R25: LED[i] is bit i - 1. -/
  led : BitVec 4
  /-- R26. -/
  err : Byte
  /-- R27. -/
  temp : BitVec 16
  /-- R28. -/
  volt : BitVec 16
  /-- R29. -/
  button : Bool
  /-- R30. -/
  txbuf : Vector Byte 8
  /-- R32. -/
  started : Bool
  /-- R33. -/
  linkRx : LinkRx
  /-- R34. -/
  txBusy : Bool
  /-- R35. -/
  faulted : Option ModelFaultKind
  /-- The input events that are still to be delivered, oldest first (20_memory.md rule R47; log 4). -/
  inbox : List Event
  /-- The actions the event being taken has emitted so far, in program order (00_scope.md rules R14, R15; log 5). -/
  actions : List Action
  /-- The answer of a CRC engine called by itself (log 6). -/
  result : Option CheckValue
  deriving DecidableEq, Repr

/-- Why the machine stops with a fault: it never does. A model fault of R144 is a next state with the FAULTED mark set
(R15, R35; log 7), and every other input has an effect, so no meaning and no step answers with a fault. -/
inductive Fault
  deriving DecidableEq, Repr

/-- Why the machine refuses. -/
inductive Refusal where
  /-- Raised by an arm of `exec` whose instruction has no meaning yet; no arm is one. Safe. -/
  | notModelled (mnemonic : String)
  /-- CONFIG_INVALID (R144): raised by `instantiate` for a DEV_ADDR outside 1..15 or a T_RX_TIMEOUT below 1. Safe: the spec
  says no state exists there. -/
  | configInvalid
  deriving DecidableEq, Repr

/-- 70_reset_and_hazards.md rule R165: every element at its reset value, for any configuration. The values are the spec's
decision (92_eei_decisions.md D8; log 12); the model's own fields are empty. -/
def State.resetWith (c : Config) : State :=
  { cfg := c
    cursor := .waitFirst
    rxTicks := 0
    rxbuf := #v[0x00#8, 0x00#8, 0x00#8]
    led := 0b0000#4
    err := c.errCodes.noError
    temp := 0x0000#16
    volt := 0x0000#16
    button := false
    txbuf := #v[0x00#8, 0x00#8, 0x00#8, 0x00#8, 0x00#8, 0x00#8, 0x00#8, 0x00#8]
    started := false
    linkRx := .none
    txBusy := false
    faulted := .none
    inbox := []
    actions := []
    result := .none }

/-- The machine right after reset, built with the reference configuration (DESIGN CHOICE, log 2). -/
def State.reset : State := State.resetWith Config.reference

end Sys2Proof.Machine
end

