-- ==== Sys2Proof/Machine/Ops.lean ====
section
/-! DEFINITION. The operations the meanings share: buffer access, emitting an action, taking a model fault, the latch of
the output lines, reset and instantiation. -/

namespace Sys2Proof.Machine

/-- The three outcomes over this machine's types. -/
abbrev Outcome := Host.Outcome State Fault Refusal

/-! ## Buffers (20_memory.md rules R40, R41, R45) -/

/-- R14: MemRead(S, off, n), the bytes at offsets off to off + n - 1, lowest offset first. R41: an access outside the buffer
has no term. -/
def memRead {size : Nat} (b : Vector Byte size) (off n : Nat) (h : off + n ≤ size := by decide) : Vector Byte n :=
  Vector.ofFn fun i => b[off + i.val]

/-- R14: MemWrite(S, off, n, v), with n the length of v. -/
def memWrite {size n : Nat} (b : Vector Byte size) (off : Nat) (v : Vector Byte n) (_h : off + n ≤ size := by decide) :
    Vector Byte size :=
  Vector.ofFn fun i => if h : off ≤ i.val ∧ i.val < off + n then v[i.val - off] else b[i]

/-- The byte at one offset of RXBUF. -/
def State.rxByte (s : State) (i : Fin 3) : Byte := s.rxbuf[i]

/-- The byte at one offset of TXBUF. -/
def State.txByte (s : State) (i : Fin 8) : Byte := s.txbuf[i]

/-! ## Actions -/

/-- R14: `emit A` appends an output action to the event's action list. -/
def emit (a : Action) (s : State) : State := { s with actions := s.actions ++ [a] }

/-! ## Model faults (60_exceptions.md rule R144) -/

/-- R35: FAULTED keeps the kind of the FIRST model fault raised; no step clears it. -/
def markFault (k : ModelFaultKind) (s : State) : State :=
  { s with faulted := s.faulted.or (some k) }

/-- R14, R15: `raise ModelFault(k)` ends the step. The state is the one the step started from, `s`, but for the FAULTED mark
(log 7). -/
def raiseModelFault (k : ModelFaultKind) (s : State) : Outcome := .next (markFault k s)

/-- The events whose first precondition is STARTED (R32): the effect `act` where it holds, EVENT_BEFORE_START where it does
not. -/
def afterStart (s : State) (act : State → Outcome) : Outcome :=
  if s.started then act s else raiseModelFault .eventBeforeStart s

/-! ## The output latch (10_state.md rules R25, R39) -/

/-- One bit of a 4-bit latch written. -/
def writeBit (v : BitVec 4) (i : Nat) (b : Bool) : BitVec 4 :=
  if b then v ||| (1#4 <<< i) else v &&& ~~~(1#4 <<< i)

/-- LED[i] as it stands. -/
def State.ledLine (s : State) (l : Line) : Bool := s.led.getLsbD l.bit

/-- R39: OUT_LINE[i] = LED[i]. The latch drives the line, so the line is a view of it. -/
def State.outLine (s : State) (l : Line) : Bool := s.ledLine l

/-- R112: LED[i] <- b together with SetLine(i, b). "Asserting the output and recording its state are a single logical
action", so this is the one operation that writes the latch. -/
def driveLine (l : Line) (b : Bool) (s : State) : State :=
  emit (.setLine l b) { s with led := writeBit s.led l.bit b }

/-! ## Reset and instantiation (70_reset_and_hazards.md rules R165 to R167) -/

/-- R165, R166: a device reset or a power cycle. It keeps only the configuration. It is the outside world's act, not a step
(log 20). -/
def powerCycle (s : State) : State := State.resetWith s.cfg

/-- R167 steps 1 and 2: building the block. CONFIG_INVALID (R144) outside R6 and R7. -/
def instantiate (p : Params) : Outcome :=
  if h : p.valid = true then .next (State.resetWith { params := p, ok := h }) else .refused .configInvalid

end Sys2Proof.Machine
end

