-- ==== Sys2Proof/Machine/Crc.lean ====
section
/-! DEFINITION. The two CRC engines of 40_crc.md, and their meanings when they are called by themselves. -/

namespace Sys2Proof.Machine

/-- R80: one pass of the inner loop, most significant bit first. -/
def crcShift {w : Nat} (poly c : BitVec w) : BitVec w :=
  if c.msb then (c <<< 1) ^^^ poly else c <<< 1

/-- R80: one byte enters the top 8 bits of the register, then eight passes of the inner loop. -/
def crcByte {w : Nat} (poly c : BitVec w) (x : Byte) : BitVec w :=
  Nat.repeat (crcShift poly) 8 (c ^^^ (x.setWidth w <<< (w - 8)))

/-- R80: CRC_W,P,I over a byte list, in list order. No reflection, no final XOR (R83). -/
def crc {w : Nat} (poly init : BitVec w) (data : List Byte) : BitVec w :=
  data.foldl (crcByte poly) init

/-- R81: CRC8, polynomial 0x31, initial value 0xFF. -/
def crc8 (data : List Byte) : Byte := crc 0x31#8 0xFF#8 data

/-- R82: CRC16, polynomial 0x1021, initial value 0xFFFF. -/
def crc16 (data : List Byte) : Half := crc 0x1021#16 0xFFFF#16 data

/-- R81: CRC8 called by itself. R84: it writes no state element of the block; the check value is its answer (log 6). -/
def execCrc8 (data : List Byte) (s : State) : Outcome := .next { s with result := some (.crc8 (crc8 data)) }

/-- R82: CRC16 called by itself. R84, as for CRC8. -/
def execCrc16 (data : List Byte) (s : State) : Outcome := .next { s with result := some (.crc16 (crc16 data)) }

end Sys2Proof.Machine
end

