-- ==== Sys2Proof/Machine/Operands.lean ====
section
/-! DEFINITION. What the operations compute from a frame and from the staged values: validity and classification of a request,
packing and checking of a response, and the byte order of 16-bit fields. -/

namespace Sys2Proof.Machine

/-! ## Requests -/

/-- 41_receiver.md rule R94: the address matches and the CRC of the first two bytes equals the received crc byte. -/
def validFrame (c : Config) (f : Frame) : Bool :=
  addrOf f == c.devAddr && crc8 [f[0], f[1]] == crcbOf f

/-- 30_encoding.md rule R65: the outcomes of a completed request frame. -/
inductive FrameClass where
  | discardAddress
  | discardCrc
  | validSendData
  | validUpdateOutputs
  | validErrorReset
  | validUnrecognised
  deriving DecidableEq, Repr

/-- R65: Classify(f). -/
def classify (c : Config) (f : Frame) : FrameClass :=
  if addrOf f ≠ c.devAddr then .discardAddress
  else if crc8 [f[0], f[1]] ≠ crcbOf f then .discardCrc
  else if cmdOf f = cmdSendData then .validSendData
  else if cmdOf f = cmdUpdateOutputs then .validUpdateOutputs
  else if cmdOf f = cmdErrorReset then .validErrorReset
  else .validUnrecognised

/-! ## Responses -/

/-- 20_memory.md rule R42(b): the low byte of a 16-bit field, v[7:0]. -/
def lowByte (v : Half) : Byte := v.extractLsb' 0 8

/-- R42(b): the high byte of a 16-bit field, v[15:8]. -/
def highByte (v : Half) : Byte := v.extractLsb' 8 8

/-- R58: byte 4 of a response, 0b000 : BUTTON : LED[4] : LED[3] : LED[2] : LED[1]. R63: bits 7:5 are always zero. -/
def statusByte (led : BitVec 4) (button : Bool) : Byte := 0b000#3 ++ BitVec.ofBool button ++ led

/-- 30_encoding.md rule R59: PackResponse, the only producer of a response frame. -/
def packResponse (temp volt : Half) (led : BitVec 4) (button : Bool) (err : Byte) : Response :=
  let b0 := lowByte temp
  let b1 := highByte temp
  let b2 := lowByte volt
  let b3 := highByte volt
  let b4 := statusByte led button
  let b5 := err
  let c := crc16 [b0, b1, b2, b3, b4, b5]
  #v[b0, b1, b2, b3, b4, b5, lowByte c, highByte c]

/-- R58 read by a requester: the value of a 16-bit field from its two bytes, low byte first. -/
def halfOf (low high : Byte) : Half := high ++ low

/-- 40_crc.md rule R87: how a receiver checks a response, CRC16(bytes 0..5) against b6 | b7 << 8. -/
def responseCheck (r : Response) : Bool :=
  crc16 [r[0], r[1], r[2], r[3], r[4], r[5]] == (r[6].setWidth 16 ||| (r[7].setWidth 16 <<< 8))

end Sys2Proof.Machine
end

