-- ==== Sys2Proof/Machine/Flags.lean ====
section
/-! DEFINITION. The block's condition codes. Its only flag is CURSOR (10_state.md rule R36); what selects an outcome beside it
is the precondition of RX_DONE (41_receiver.md rule R99), the timeout comparison (R98) and the code of a transport fault
(30_encoding.md rule R69). -/

namespace Sys2Proof.Machine

/-- R69, 43_response.md rule R120: the code a recognised transport fault latches. -/
def faultCode (c : ErrCodes) : TransportFault → Byte
  | .parity => c.parity
  | .noise => c.noise
  | .framing => c.framing
  | .overrun => c.overrun
  | .dma => c.dma

/-- R99: the precondition of RX_DONE(d) that fails first, if any. -/
def rxDonePrecondition (s : State) (d : List Byte) : Option ModelFaultKind :=
  if s.started = false then some .eventBeforeStart
  else
    match s.linkRx with
    | .none => some .rxUnarmed
    | .armed _ len => if d.length = len then none else some .rxUnarmed

/-- R98: after this tick the counter has reached T_RX_TIMEOUT. The counter is incremented, then compared. -/
def timeoutReached (s : State) : Bool := decide (s.rxTicks + 1 ≥ s.cfg.tRxTimeout)

end Sys2Proof.Machine
end

