-- ==== Sys2Proof/Machine/Commands.lean ====
section
/-! DEFINITION. The dispatcher of 42_dispatcher.md: the four operations a validated frame selects, `dispatch` (R110), and the
meanings of the 16 command rows. -/

namespace Sys2Proof.Machine

/-- R111: SendData(f), skip. -/
def sendData (_f : Frame) (s : State) : State := s

/-- R112: UpdateOutputs(f). For i = 1, 2, 3, 4: LED[i] <- LED_REQ(f, i); emit SetLine(i, LED_REQ(f, i)). -/
def updateOutputs (f : Frame) (s : State) : State :=
  Line.all.foldl (fun t l => driveLine l (ledReq f l) t) s

/-- R113: ErrorReset(f), ERR <- ERR_CODES.NONE. -/
def errorReset (_f : Frame) (s : State) : State := { s with err := s.cfg.errCodes.noError }

/-- R114: Unrecognised(f), ERR <- ERR_CODES.INCORRECT_COMMAND. -/
def unrecognised (_f : Frame) (s : State) : State := { s with err := s.cfg.errCodes.incorrectCommand }

/-- R110: Dispatch(f), for a frame that has passed R94. -/
def dispatch (f : Frame) (s : State) : State :=
  if cmdOf f = cmdSendData then sendData f s
  else if cmdOf f = cmdUpdateOutputs then updateOutputs f s
  else if cmdOf f = cmdErrorReset then errorReset f s
  else unrecognised f s

/-- A command row executed by itself. Its frame "executes only if addr == DEV_ADDR and crc8 == CRC8(byte0, byte1)"
(opcode_table.json); another frame has no effect (R95; log 8). -/
def whenValid (f : Frame) (effect : Frame → State → State) (s : State) : Outcome :=
  .next (if validFrame s.cfg f then effect f s else s)

/-- R111: SEND_DATA. -/
def execSendData (r : Request) (s : State) : Outcome := whenValid (frameOf 0x0#4 r) sendData s

/-- R112: UPDATE_OUTPUTS. -/
def execUpdateOutputs (r : Request) (s : State) : Outcome := whenValid (frameOf 0x1#4 r) updateOutputs s

/-- R113: ERROR_RESET. -/
def execErrorReset (r : Request) (s : State) : Outcome := whenValid (frameOf 0x2#4 r) errorReset s

/-- R114: command 0x3. -/
def execCmdUnrecognised3 (r : Request) (s : State) : Outcome := whenValid (frameOf 0x3#4 r) unrecognised s

/-- R114: command 0x4. -/
def execCmdUnrecognised4 (r : Request) (s : State) : Outcome := whenValid (frameOf 0x4#4 r) unrecognised s

/-- R114: command 0x5. -/
def execCmdUnrecognised5 (r : Request) (s : State) : Outcome := whenValid (frameOf 0x5#4 r) unrecognised s

/-- R114: command 0x6. -/
def execCmdUnrecognised6 (r : Request) (s : State) : Outcome := whenValid (frameOf 0x6#4 r) unrecognised s

/-- R114: command 0x7. -/
def execCmdUnrecognised7 (r : Request) (s : State) : Outcome := whenValid (frameOf 0x7#4 r) unrecognised s

/-- R114: command 0x8. -/
def execCmdUnrecognised8 (r : Request) (s : State) : Outcome := whenValid (frameOf 0x8#4 r) unrecognised s

/-- R114: command 0x9. -/
def execCmdUnrecognised9 (r : Request) (s : State) : Outcome := whenValid (frameOf 0x9#4 r) unrecognised s

/-- R114: command 0xA. -/
def execCmdUnrecognisedA (r : Request) (s : State) : Outcome := whenValid (frameOf 0xA#4 r) unrecognised s

/-- R114: command 0xB. -/
def execCmdUnrecognisedB (r : Request) (s : State) : Outcome := whenValid (frameOf 0xB#4 r) unrecognised s

/-- R114: command 0xC. -/
def execCmdUnrecognisedC (r : Request) (s : State) : Outcome := whenValid (frameOf 0xC#4 r) unrecognised s

/-- R114: command 0xD. -/
def execCmdUnrecognisedD (r : Request) (s : State) : Outcome := whenValid (frameOf 0xD#4 r) unrecognised s

/-- R114: command 0xE. -/
def execCmdUnrecognisedE (r : Request) (s : State) : Outcome := whenValid (frameOf 0xE#4 r) unrecognised s

/-- R114: command 0xF. -/
def execCmdUnrecognisedF (r : Request) (s : State) : Outcome := whenValid (frameOf 0xF#4 r) unrecognised s

end Sys2Proof.Machine
end

