-- ==== Sys2Proof/Machine/Response.lean ====
section
/-! DEFINITION. 43_response.md: the error latch's write port, the telemetry setters, the response builder and TX_DONE. -/

namespace Sys2Proof.Machine

/-- R120: FAULT with a recognised kind. R122: it writes nothing but ERR. -/
def execFaultRecognised (k : TransportFault) (s : State) : Outcome :=
  afterStart s fun s => .next { s with err := faultCode s.cfg.errCodes k }

/-- R121: FAULT(OTHER(x)) is ignored after the STARTED check. -/
def execFaultOther (_x : Nat) (s : State) : Outcome := afterStart s fun s => .next s

/-- R123: SET_TEMP, before or after START. -/
def execSetTemp (v : Half) (s : State) : Outcome := .next { s with temp := v }

/-- R124: SET_VOLT, before or after START. -/
def execSetVolt (v : Half) (s : State) : Outcome := .next { s with volt := v }

/-- R125: SET_BUTTON, before or after START. -/
def execSetButton (b : Bool) (s : State) : Outcome := .next { s with button := b }

/-- R126: BuildAndSend(), or the model fault it raises. R127: the response is packed from the state at this point. -/
def buildAndSend (s : State) : Except ModelFaultKind State :=
  if s.txBusy then .error .txOverlap
  else
    let r := packResponse s.temp s.volt s.led s.button s.err
    let s1 := { s with txbuf := memWrite s.txbuf 0 r, txBusy := true }
    .ok (emit (.tx (memRead s1.txbuf 0 8)) s1)

/-- R126: BUILD_AND_SEND executed by itself (log 23). -/
def execBuildAndSend (s : State) : Outcome :=
  match buildAndSend s with
  | .ok t => .next t
  | .error k => raiseModelFault k s

/-- R129: TX_DONE. -/
def execTxDone (s : State) : Outcome :=
  afterStart s fun s =>
    if s.txBusy then .next { s with txBusy := false } else raiseModelFault .txDoneUnexpected s

end Sys2Proof.Machine
end

