-- ==== Sys2Proof/Machine/Receiver.lean ====
section
/-! DEFINITION. 41_receiver.md: StartReceive, the two phases of a receive, and the timeout supervisor. -/

namespace Sys2Proof.Machine

/-- R91: StartReceive(). -/
def startReceive (s : State) : State :=
  emit (.armRx 0 1)
    { s with
      cursor := .waitFirst
      rxTicks := 0
      rxbuf := memWrite s.rxbuf 0 #v[0x00#8, 0x00#8, 0x00#8]
      linkRx := .armed 0 1
      started := true }

/-- R91: START, legal in every state. -/
def execStart (s : State) : Outcome := .next (startReceive s)

/-- R92: the first-byte phase, after the checks of R99. -/
def firstByte (d0 : Byte) (s : State) : State :=
  emit (.armRx 1 2)
    { s with
      rxbuf := memWrite s.rxbuf 0 #v[d0]
      cursor := .inProgress
      linkRx := .armed 1 2 }

/-- R92: RX_DONE in the first-byte phase. A list that LINK_RX admits and that is not one byte long (no reachable state admits
one) raises RX_UNARMED too (log 9). -/
def execRxDoneFirst (d : List Byte) (s : State) : Outcome :=
  match rxDonePrecondition s d with
  | some k => raiseModelFault k s
  | none =>
    match d with
    | [d0] => .next (firstByte d0 s)
    | _ => raiseModelFault .rxUnarmed s

/-- R93: the delivered bytes land, and the receive is over. -/
def takeRemainder (d1 d2 : Byte) (s : State) : State :=
  { s with rxbuf := memWrite s.rxbuf 1 #v[d1, d2], linkRx := .none }

/-- R93: the completed frame is validated (R94), dispatched (R110) and answered (R126) if it is valid, and the receive is
re-armed in any case (R96). A model fault of the response undoes the whole step (R15, R126). -/
def remainder (d1 d2 : Byte) (s : State) : Outcome :=
  let s1 := takeRemainder d1 d2 s
  let f := memRead s1.rxbuf 0 3
  if validFrame s1.cfg f then
    match buildAndSend (dispatch f s1) with
    | .ok s2 => .next (startReceive s2)
    | .error k => raiseModelFault k s
  else .next (startReceive s1)

/-- R93: RX_DONE in the remainder phase; R99 and log 9 as in the first-byte phase. -/
def execRxDoneRemainder (d : List Byte) (s : State) : Outcome :=
  match rxDonePrecondition s d with
  | some k => raiseModelFault k s
  | none =>
    match d with
    | [d1, d2] => remainder d1 d2 s
    | _ => raiseModelFault .rxUnarmed s

/-- R97: TICK while waiting for the first byte. -/
def execTickWait (s : State) : Outcome := afterStart s fun s => .next { s with rxTicks := 0 }

/-- R98: the abort of a stalled receive. -/
def abortReceive (s : State) : State := startReceive (emit .abortRx { s with linkRx := .none })

/-- R98: TICK while a frame is in progress. -/
def execTickInProgress (s : State) : Outcome :=
  afterStart s fun s =>
    let s1 := { s with rxTicks := s.rxTicks + 1 }
    .next (if timeoutReached s then abortReceive s1 else s1)

end Sys2Proof.Machine
end

