-- ==== Sys2Proof/Machine/Dispatch.lean ====
section
/-! DEFINITION. One arm per row of opcode_table.json, in the table's order. -/

namespace Sys2Proof.Machine

def exec (i : Instr) (s : State) : Host.Outcome State Fault Refusal :=
  match i with
  | .sendData r => Sys2Proof.Machine.execSendData r s
  | .updateOutputs r => Sys2Proof.Machine.execUpdateOutputs r s
  | .errorReset r => Sys2Proof.Machine.execErrorReset r s
  | .cmdUnrecognised3 r => Sys2Proof.Machine.execCmdUnrecognised3 r s
  | .cmdUnrecognised4 r => Sys2Proof.Machine.execCmdUnrecognised4 r s
  | .cmdUnrecognised5 r => Sys2Proof.Machine.execCmdUnrecognised5 r s
  | .cmdUnrecognised6 r => Sys2Proof.Machine.execCmdUnrecognised6 r s
  | .cmdUnrecognised7 r => Sys2Proof.Machine.execCmdUnrecognised7 r s
  | .cmdUnrecognised8 r => Sys2Proof.Machine.execCmdUnrecognised8 r s
  | .cmdUnrecognised9 r => Sys2Proof.Machine.execCmdUnrecognised9 r s
  | .cmdUnrecognisedA r => Sys2Proof.Machine.execCmdUnrecognisedA r s
  | .cmdUnrecognisedB r => Sys2Proof.Machine.execCmdUnrecognisedB r s
  | .cmdUnrecognisedC r => Sys2Proof.Machine.execCmdUnrecognisedC r s
  | .cmdUnrecognisedD r => Sys2Proof.Machine.execCmdUnrecognisedD r s
  | .cmdUnrecognisedE r => Sys2Proof.Machine.execCmdUnrecognisedE r s
  | .cmdUnrecognisedF r => Sys2Proof.Machine.execCmdUnrecognisedF r s
  | .start => Sys2Proof.Machine.execStart s
  | .rxDoneFirst d => Sys2Proof.Machine.execRxDoneFirst d s
  | .rxDoneRemainder d => Sys2Proof.Machine.execRxDoneRemainder d s
  | .tickWait => Sys2Proof.Machine.execTickWait s
  | .tickInProgress => Sys2Proof.Machine.execTickInProgress s
  | .faultRecognised k => Sys2Proof.Machine.execFaultRecognised k s
  | .faultOther x => Sys2Proof.Machine.execFaultOther x s
  | .setTemp v => Sys2Proof.Machine.execSetTemp v s
  | .setVolt v => Sys2Proof.Machine.execSetVolt v s
  | .setButton b => Sys2Proof.Machine.execSetButton b s
  | .txDone => Sys2Proof.Machine.execTxDone s
  | .crc8 data => Sys2Proof.Machine.execCrc8 data s
  | .crc16 data => Sys2Proof.Machine.execCrc16 data s
  | .buildAndSend => Sys2Proof.Machine.execBuildAndSend s

end Sys2Proof.Machine
end

