-- ==== Sys2Proof/Machine/Deliver.lean ====
section
/-! DEFINITION. How an input event reaches its handler (60_exceptions.md rules R149, R150): the event begins in the state the
previous step left, with an empty action list, and its row is selected by CURSOR. -/

namespace Sys2Proof.Machine

/-- An event is taken from the inbox: `rest` is what stays, and the outputs of the previous step are gone (log 4, 5). -/
def beginEvent (rest : List Event) (s : State) : State := { s with inbox := rest, actions := [], result := none }

/-- 41_receiver.md rule R90: the event's row is selected by CURSOR, and the row's meaning is executed. -/
def deliver (e : Event) (s : State) : Outcome := exec (decodeEvent s.cursor e) s

/-- A step with no event pending: the block waits, and emits nothing (60_exceptions.md rule R157; log 4). -/
def idle (s : State) : Outcome := .next (beginEvent [] s)

/-- One event taken as a whole step, whatever is in the inbox. -/
def react (e : Event) (s : State) : Outcome := deliver e (beginEvent s.inbox s)

/-- The events of a list taken one after the other (20_memory.md rule R47). -/
def runEvents : List Event → State → Outcome
  | [], s => .next s
  | e :: es, s =>
    match react e s with
    | .next t => runEvents es t
    | .fault r => .fault r
    | .refused r => .refused r

/-- The receiver as it stands when the last two bytes of `f` are all that is missing, with their delivery as the next event:
STARTED, the first byte in RXBUF, ARMED(1, 2). Nothing else changes (log 10). -/
def placeFrame (f : Frame) (s : State) : State :=
  { s with
    started := true
    cursor := .inProgress
    rxTicks := 0
    rxbuf := #v[f[0], 0x00#8, 0x00#8]
    linkRx := .armed 1 2
    inbox := .rxDone [f[1], f[2]] :: s.inbox }

end Sys2Proof.Machine
end

