-- ==== Sys2Proof/Machine/Step.lean ====
section
/-! DEFINITION. One step: the oldest pending input event, as one atomic transition (00_scope.md rules R2, R15). -/

namespace Sys2Proof.Machine

/-- R15: a step takes the state and one input event. The event is the head of the inbox; with none pending the block idles. -/
def step (s : State) : Host.Outcome State Fault Refusal :=
  match s.inbox with
  | [] => idle s
  | e :: rest => deliver e (beginEvent rest s)

/-- The opcode-table word `w` placed where the next step takes its instruction: the request frame whose completion is the next
event. A word that is no request frame places nothing. -/
def State.withFetchWord (s : State) (nbits w : Nat) : State :=
  match tableFrame nbits w with
  | some f => placeFrame f s
  | none => s

end Sys2Proof.Machine
end

