-- ==== Sys2Proof/Machine/Script.lean ====
section
/-! DEFINITION. The event scripts of 30_encoding.md rules R70 and R71: one event or pseudo-event a line, and the input events
each stands for. Where R70 is silent on the form of a line the reader refuses it (log 22). -/

namespace Sys2Proof.Machine

/-- R67, R71: what a line of a script holds. -/
inductive ScriptLine where
  | event (e : Event)
  | frame (a c : Nibble) (l : Byte)
  | badFrame (a c : Nibble) (l x : Byte)
  | poll (a : Nibble)
  | setLeds (a : Nibble) (l : Byte)
  | errRst (a : Nibble)
  | ticks (n : Nat)
  deriving DecidableEq, Repr

/-- R71: byte 0 of a frame, c << 4 | a. -/
def scriptByte0 (a c : Nibble) : Byte := (c.setWidth 8 <<< 4) ||| a.setWidth 8

/-- R71: `FRAME a c l` is RX_DONE b0, then RX_DONE b1 CRC8([b0, b1]). -/
def frameEvents (a c : Nibble) (l : Byte) : List Event :=
  [.rxDone [scriptByte0 a c], .rxDone [l, crc8 [scriptByte0 a c, l]]]

/-- R71: the input events a line stands for. -/
def ScriptLine.expand : ScriptLine → List Event
  | .event e => [e]
  | .frame a c l => frameEvents a c l
  | .badFrame a c l x => [.rxDone [scriptByte0 a c], .rxDone [l, x]]
  | .poll a => frameEvents a cmdSendData 0x00#8
  | .setLeds a l => frameEvents a cmdUpdateOutputs l
  | .errRst a => frameEvents a cmdErrorReset 0x00#8
  | .ticks n => List.replicate n .tick

/-! ## Reading a script (R70) -/

/-- The pieces of a text between the characters `sep` picks out. -/
def splitText (sep : Char → Bool) : List Char → List (List Char)
  | [] => [[]]
  | c :: cs =>
    if sep c then [] :: splitText sep cs
    else
      match splitText sep cs with
      | [] => [[c]]
      | piece :: pieces => (c :: piece) :: pieces

/-- R70: the words of a line, less its comment `; text`. -/
def lineWords (line : List Char) : List (List Char) :=
  (splitText (fun c => c == ' ' || c == '\t' || c == '\r') (line.takeWhile (· != ';'))).filter (! ·.isEmpty)

/-- The value of a digit in base `base`. -/
def digitValue (base : Nat) (c : Char) : Option Nat :=
  let n := c.toNat
  let v :=
    if 48 ≤ n ∧ n ≤ 57 then some (n - 48)
    else if 65 ≤ n ∧ n ≤ 70 then some (n - 55)
    else if 97 ≤ n ∧ n ≤ 102 then some (n - 87)
    else none
  v.filter (· < base)

/-- A natural number of at least one digit. -/
def readDigits (base : Nat) : List Char → Option Nat
  | [] => none
  | cs => cs.foldl (fun acc c => do return (← acc) * base + (← digitValue base c)) (some 0)

/-- R70: hexadecimal with `0x`, or decimal with an optional sign. -/
def readNumber : List Char → Option Int
  | '0' :: 'x' :: cs => (readDigits 16 cs).map Int.ofNat
  | '-' :: cs => (readDigits 10 cs).map fun n => -Int.ofNat n
  | '+' :: cs => (readDigits 10 cs).map Int.ofNat
  | cs => (readDigits 10 cs).map Int.ofNat

/-- A number in the range lo..hi, at a width. -/
def readBits (w : Nat) (lo hi : Int) (cs : List Char) : Option (BitVec w) := do
  let v ← readNumber cs
  if lo ≤ v ∧ v ≤ hi then some (BitVec.ofInt w v) else none

/-- A 4-bit argument. -/
def readNibble (cs : List Char) : Option Nibble := readBits 4 0 15 cs

/-- A byte argument. -/
def readByte (cs : List Char) : Option Byte := readBits 8 0 255 cs

/-- A count. -/
def readCount (cs : List Char) : Option Nat := do
  let v ← readNumber cs
  if 0 ≤ v then some v.toNat else none

/-- R68: the FaultKind a script names. DESIGN CHOICE (log 13): R70 shows no spelling for the x of OTHER(x). The reader takes it
as a word of its own, `FAULT OTHER x`, and refuses `FAULT OTHER(x)`; a bare OTHER is OTHER(0). -/
def readFault : List String → Option FaultKind
  | ["PARITY"] => some (.recognised .parity)
  | ["NOISE"] => some (.recognised .noise)
  | ["FRAMING"] => some (.recognised .framing)
  | ["OVERRUN"] => some (.recognised .overrun)
  | ["DMA"] => some (.recognised .dma)
  | ["OTHER"] => some (.other 0)
  | ["OTHER", x] => (readCount x.toList).map .other
  | _ => none

/-- One line's words, the first of them the event's or pseudo-event's name. -/
def readWords (name : String) (args : List (List Char)) : Option ScriptLine :=
  match name, args with
  | "START", [] => some (.event .start)
  | "RX_DONE", [d0] => do return .event (.rxDone [← readByte d0])
  | "RX_DONE", [d1, d2] => do return .event (.rxDone [← readByte d1, ← readByte d2])
  | "TICK", [] => some (.event .tick)
  | "FAULT", k => do return .event (.fault (← readFault (k.map String.ofList)))
  | "SET_TEMP", [v] => do return .event (.setTemp (← readBits 16 (-32768) 32767 v))
  | "SET_VOLT", [v] => do return .event (.setVolt (← readBits 16 0 65535 v))
  | "SET_BUTTON", [b] => do return .event (.setButton ((← readBits 1 0 1 b).getLsbD 0))
  | "TX_DONE", [] => some (.event .txDone)
  | "FRAME", [a, c, l] => do return .frame (← readNibble a) (← readNibble c) (← readByte l)
  | "BADFRAME", [a, c, l, x] =>
    do return .badFrame (← readNibble a) (← readNibble c) (← readByte l) (← readByte x)
  | "POLL", [a] => do return .poll (← readNibble a)
  | "SETLEDS", [a, l] => do return .setLeds (← readNibble a) (← readByte l)
  | "ERRRST", [a] => do return .errRst (← readNibble a)
  | "TICKS", [n] => do return .ticks (← readCount n)
  | _, _ => none

/-- A line's events: none for a blank line or a comment, `none` for a line R70 does not allow. -/
def readLine (line : List Char) : Option (List Event) :=
  match lineWords line with
  | [] => some []
  | name :: args => (readWords (String.ofList name) args).map ScriptLine.expand

/-- The events of a list of lines, in order. -/
def readLines : List (List Char) → Option (List Event)
  | [] => some []
  | line :: lines => do return (← readLine line) ++ (← readLines lines)

/-- R70: the events of a script. -/
def readScript (text : List Char) : Option (List Event) := readLines (splitText (· == '\n') text)

end Sys2Proof.Machine
end

