-- ==== Sys2Proof/Safety.lean ====
section
/-! DEFINITION. The terms the claims are made in: the receiver's two states (10_state.md rule R23), the invariant, the
preconditions of the interface (60_exceptions.md rules R144, R154), and what a step delivered and sent. -/

namespace Sys2Proof.Machine

/-- R35: "Every claim about the block takes FAULTED = none as a premise." -/
abbrev State.safe (s : State) : Prop := s.faulted = none

/-- R23(a): waiting for the first byte of a frame. -/
abbrev stateA (s : State) : Prop :=
  s.cursor = .waitFirst ∧ s.rxTicks = 0 ∧ s.rxbuf = #v[0x00#8, 0x00#8, 0x00#8] ∧ s.linkRx = .armed 0 1

/-- R23(b): a frame in progress. -/
abbrev stateB (s : State) : Prop :=
  s.cursor = .inProgress ∧ s.rxTicks < s.cfg.tRxTimeout ∧ s.rxbuf[1] = 0x00#8 ∧ s.rxbuf[2] = 0x00#8 ∧
    s.linkRx = .armed 1 2

/-- 70_reset_and_hazards.md rule R168: the quiescent receiver before the first START. -/
abbrev quiescent (s : State) : Prop :=
  s.cursor = .waitFirst ∧ s.rxTicks = 0 ∧ s.rxbuf = #v[0x00#8, 0x00#8, 0x00#8] ∧ s.linkRx = .none ∧ s.txBusy = false

/-- What holds between steps. -/
structure Inv (s : State) : Prop where
  /-- R23, and R168 before START. -/
  receiver : if s.started = true then stateA s ∨ stateB s else quiescent s
  /-- R22: RX_TICKS never passes T_RX_TIMEOUT. -/
  ticks_le : s.rxTicks ≤ s.cfg.tRxTimeout
  /-- R26, 30_encoding.md rule R69: ERR holds one of ERR_CODES. -/
  err_legal : s.err ∈ s.cfg.errCodes.all
  /-- 30_encoding.md rule R63: the reserve bits of a response are zero. -/
  reserve_zero : s.txbuf[4].extractLsb' 5 3 = 0b000#3
  /-- 40_crc.md rule R87: the response in flight passes its receiver's check. -/
  in_flight : s.txBusy = true → responseCheck s.txbuf = true

/-- The request frame that event `e` completes in state `s`: a remainder delivery LINK_RX has armed (41_receiver.md rules R90,
R93, R99). -/
def completedFrame (s : State) (e : Event) : Option Frame :=
  match s.cursor, e, s.linkRx with
  | .inProgress, .rxDone [d1, d2], .armed _ 2 => if s.started then some #v[s.rxbuf[0], d1, d2] else none
  | _, _, _ => none

/-- A response is due: the event completes a valid frame (R93, 43_response.md rule R126). -/
def responseDue (s : State) (e : Event) : Bool :=
  match completedFrame s e with
  | some f => validFrame s.cfg f
  | none => false

/-- The table of 60_exceptions.md rule R144: the model fault an event raises in a state, if any. -/
def modelFault (s : State) (e : Event) : Option ModelFaultKind :=
  match e with
  | .start => none
  | .setTemp _ => none
  | .setVolt _ => none
  | .setButton _ => none
  | .tick => if s.started then none else some .eventBeforeStart
  | .fault _ => if s.started then none else some .eventBeforeStart
  | .txDone =>
    if s.started then (if s.txBusy then none else some .txDoneUnexpected) else some .eventBeforeStart
  | .rxDone d =>
    if s.started then
      if s.linkRx = .armed 0 d.length ∨ s.linkRx = .armed 1 d.length then
        (if responseDue s e && s.txBusy then some .txOverlap else none)
      else some .rxUnarmed
    else some .eventBeforeStart

/-- The platform keeps its contract (R154, R167 step 4) and the requester waits for each response (R171) all along a run:
no event meets a broken precondition. -/
def keepsContract : List Event → State → Prop
  | [], _ => True
  | e :: es, s => modelFault s e = none ∧ ∀ t, react e s = .next t → keepsContract es t

/-- The responses among a step's actions. -/
def sent (as : List Action) : List Response :=
  as.filterMap fun
    | .tx r => some r
    | .armRx _ _ => none
    | .abortRx => none
    | .setLine _ _ => none

/-- The bits of a byte, most significant first. -/
def bitsMsbFirst (x : Byte) : List Bool := [7, 6, 5, 4, 3, 2, 1, 0].map x.getLsbD

/-- A CRC register fed one message bit at a time, with no reflection and no final XOR: the other way to read rule R80. -/
def crcSerial {w : Nat} (poly init : BitVec w) (bits : List Bool) : BitVec w :=
  bits.foldl (fun c b => if c.msb ^^ b then (c <<< 1) ^^^ poly else c <<< 1) init

end Sys2Proof.Machine
end

