-- ==== Sys2Proof/Certificates/Slice0/Obligations.lean ====
section
/-! DEFINITION. The statements for the provers. Each docstring names the rules of spec/ the statement formalises. A statement
that rests on a decision of the spec's own or on a choice of the model says so. A statement with no premise on FAULTED holds in
faulted states too; what a faulted state does with a later event is the model's reading (log 7), and `State.safe` is the premise
of 10_state.md rule R35. -/

open Sys2Proof Sys2Proof.Machine

/-! ## Encoding -/

/-- Frames written out from 30_encoding.md rule R55 and 95_test_vectors.md sections 1 and 5 decode to what they stand for; a
byte list shorter than a frame is rejected by name (R66; the names are the model's). That command 0 is SEND_DATA and 2 is
ERROR_RESET is the spec's decision D2 (log 3, unsafe); the places of the address, command, LED and reserved bits are D6
(log 18, unsafe). -/
def Obligations.WrittenFramesDecode : Prop :=
  decode [0x01#8, 0x00#8, 0x75#8] = .ok (.sendData { addr := 0x1#4, leds := 0x0#4, reserved := 0x0#4, crc := 0x75#8 }, []) ∧
  decode [0x11#8, 0xF1#8, 0xA8#8] = .ok (.updateOutputs { addr := 0x1#4, leds := 0x1#4, reserved := 0xF#4, crc := 0xA8#8 }, []) ∧
  decode [0x12#8, 0x0F#8, 0x18#8, 0x77#8] =
    .ok (.updateOutputs { addr := 0x2#4, leds := 0xF#4, reserved := 0x0#4, crc := 0x18#8 }, [0x77#8]) ∧
  decode [0x21#8, 0x00#8, 0xA9#8] = .ok (.errorReset { addr := 0x1#4, leds := 0x0#4, reserved := 0x0#4, crc := 0xA9#8 }, []) ∧
  decode [0x31#8, 0x0F#8, 0xE9#8] = .ok (.cmdUnrecognised3 { addr := 0x1#4, leds := 0xF#4, reserved := 0x0#4, crc := 0xE9#8 }, []) ∧
  decode [0xF1#8, 0x00#8, 0x6D#8] = .ok (.cmdUnrecognisedF { addr := 0x1#4, leds := 0x0#4, reserved := 0x0#4, crc := 0x6D#8 }, []) ∧
  decode [0x11#8, 0x01#8] = .error (.truncated 2)

/-- 30_encoding.md rules R55, R60, R61: decoding the bytes of an encoded command gives the command back, with every operand,
and leaves what follows it; and every three bytes decode to a command whose encoding they are. Where the fields stand is the
spec's decision D6 (log 18, unsafe), and which code is which command D2 (log 3, unsafe). -/
def Obligations.CommandDecodeEncodeAgree : Prop :=
  (∀ (i : Instr) (f : Frame), encode i = .request24 f → ∀ rest, decode (frameBytes f ++ rest) = .ok (i, rest)) ∧
  (∀ (f : Frame) (rest : List Byte), ∃ i, decode (frameBytes f ++ rest) = .ok (i, rest) ∧ encode i = .request24 f)

/-- 30_encoding.md rule R57 and opcode_table.json: a frame, as the word W, matches a command row under the mask 0x0000F0
exactly when it decodes to that row's instruction with its own fields. That the command is in the high nibble of byte 0 is
the spec's decision D6 (log 18, unsafe), and the codes 0 and 2 of the rows SEND_DATA and ERROR_RESET are D2 (log 3,
unsafe). -/
def Obligations.CommandRowsSelectByMask : Prop :=
  ∀ (f : Frame) (row : CommandRow), row ∈ commandTable →
    (frameWord f &&& 0x0000F0#24 = row.matchWord ↔ decodeFrame f = some (row.build (requestOf f)))

/-- 30_encoding.md rule R56, as arithmetic on the bytes: ADDR = f0 mod 16, CMD = f0 / 16, LED_REQ(i) = bit i - 1 of f1, RSVD
= f1 / 16, CRCB = f2. The bit positions are the spec's decision D6 (log 18, unsafe). -/
def Obligations.RequestFieldPositions : Prop :=
  ∀ f : Frame,
    (addrOf f).toNat = f[0].toNat % 16 ∧ (cmdOf f).toNat = f[0].toNat / 16 ∧
    ledReq f .line1 = f[1].getLsbD 0 ∧ ledReq f .line2 = f[1].getLsbD 1 ∧
    ledReq f .line3 = f[1].getLsbD 2 ∧ ledReq f .line4 = f[1].getLsbD 3 ∧
    (rsvdOf f).toNat = f[1].toNat / 16 ∧ (crcbOf f).toNat = f[2].toNat

/-- 30_encoding.md rule R57: the fields of the word W = f2 : f1 : f0, and the frame read back from its word. The bit
positions are the spec's decision D6 (log 18, unsafe). -/
def Obligations.FrameWordFields : Prop :=
  ∀ f : Frame,
    (frameWord f).extractLsb' 0 4 = addrOf f ∧ (frameWord f).extractLsb' 4 4 = cmdOf f ∧
    (∀ l : Line, (frameWord f).getLsbD (8 + l.bit) = ledReq f l) ∧
    (frameWord f).extractLsb' 12 4 = rsvdOf f ∧ (frameWord f).extractLsb' 16 8 = crcbOf f ∧
    wordFrame (frameWord f) = f

/-- 30_encoding.md rules R58 and R59: the eight bytes of a response as numbers, low byte first in each 16-bit field, and the
CRC16 of the first six. The order of the bytes is the spec's decision D7, the bits of byte 4 are D6 (log 18, unsafe). -/
def Obligations.ResponseByteLayout : Prop :=
  ∀ (temp volt : Half) (led : BitVec 4) (button : Bool) (err : Byte),
    let r := packResponse temp volt led button err
    r[0].toNat = temp.toNat % 256 ∧ r[1].toNat = temp.toNat / 256 ∧
    r[2].toNat = volt.toNat % 256 ∧ r[3].toNat = volt.toNat / 256 ∧
    r[4].toNat = led.toNat + 16 * button.toNat ∧ r[5] = err ∧
    r[6].toNat = (crc16 [r[0], r[1], r[2], r[3], r[4], r[5]]).toNat % 256 ∧
    r[7].toNat = (crc16 [r[0], r[1], r[2], r[3], r[4], r[5]]).toNat / 256

/-- 30_encoding.md rule R58, 40_crc.md rule R87: a requester reads every staged value back from a response, and the response
passes its check, CRC16(bytes 0..5) against b6 | b7 << 8. The low byte first, in the fields and in the check, is the spec's
decision D7 (log 18, unsafe); the bits of byte 4 are D6. -/
def Obligations.ResponseReadsBack : Prop :=
  ∀ (temp volt : Half) (led : BitVec 4) (button : Bool) (err : Byte),
    let r := packResponse temp volt led button err
    halfOf r[0] r[1] = temp ∧ halfOf r[2] r[3] = volt ∧ r[4].extractLsb' 0 4 = led ∧ r[4].getLsbD 4 = button ∧ r[5] = err ∧
      responseCheck r = true

/-- 30_encoding.md rule R63: the reserve bits, TXBUF[4][7:5], are 0b000 in every response, whatever the values it is built
from; they are 0b000 in TXBUF after a reset, and no step makes them anything else. -/
def Obligations.ResponseReserveIsZero : Prop :=
  (∀ (temp volt : Half) (led : BitVec 4) (button : Bool) (err : Byte),
    (packResponse temp volt led button err)[4].extractLsb' 5 3 = 0b000#3) ∧
  (∀ s : State, (powerCycle s).txbuf[4].extractLsb' 5 3 = 0b000#3) ∧
  (∀ s t : State, s.txbuf[4].extractLsb' 5 3 = 0b000#3 → step s = .next t → t.txbuf[4].extractLsb' 5 3 = 0b000#3)

/-- 30_encoding.md rule R71: the events of the pseudo-event FRAME, sent to this device, are a valid frame that carries the
command and the byte it names. The nibble order of byte 0 is the spec's decision D6 (log 18, unsafe), and the script
notation D16 (log 24). -/
def Obligations.ScriptFrameIsValid : Prop :=
  ∀ (c : Config) (k : Nibble) (l : Byte), ∃ f : Frame,
    (ScriptLine.frame c.devAddr k l).expand = [.rxDone [f[0]], .rxDone [f[1], f[2]]] ∧
    validFrame c f = true ∧ cmdOf f = k ∧ f[1] = l

/-! ## The CRC engines -/

/-- 40_crc.md rules R80 to R82: each engine takes its input bit by bit, most significant bit first, with its own polynomial
and initial value. The loop is R80's, which the spec marks as general knowledge. -/
def Obligations.CrcEnginesAreBitSerial : Prop :=
  ∀ data : List Byte,
    crc8 data = crcSerial 0x31#8 0xFF#8 (data.flatMap bitsMsbFirst) ∧
    crc16 data = crcSerial 0x1021#16 0xFFFF#16 (data.flatMap bitsMsbFirst)

/-- 40_crc.md rule R80: a bytewise, table-driven engine gives the same value. The table entry of a byte is what the loop
makes of that byte in an all-zero register. The loop is R80's, which the spec marks as general knowledge. -/
def Obligations.CrcEnginesAreTableDriven : Prop :=
  ∀ data : List Byte,
    crc8 data = data.foldl (fun (c x : Byte) => crcByte 0x31#8 0 (c ^^^ x)) 0xFF#8 ∧
    crc16 data =
      data.foldl (fun (c : Half) (x : Byte) => (c <<< 8) ^^^ crcByte 0x1021#16 0 ((c >>> 8).setWidth 8 ^^^ x)) 0xFFFF#16

/-- 40_crc.md rule R85: both engines are affine over GF(2) in inputs of equal length. -/
def Obligations.CrcEnginesAreAffine : Prop :=
  ∀ a b : List Byte, a.length = b.length →
    crc8 (List.zipWith (· ^^^ ·) a b) = crc8 a ^^^ crc8 b ^^^ crc8 (List.replicate a.length 0x00#8) ∧
    crc16 (List.zipWith (· ^^^ ·) a b) = crc16 a ^^^ crc16 b ^^^ crc16 (List.replicate a.length 0x00#8)

/-- 40_crc.md rule R85: a valid frame with one bit of bytes 0 and 1 flipped, or with another crc byte, is not valid. -/
def Obligations.SingleBitErrorsAreDiscarded : Prop :=
  ∀ (c : Config) (b0 b1 b2 : Byte), validFrame c #v[b0, b1, b2] = true →
    (∀ k < 8, validFrame c #v[b0 ^^^ (1#8 <<< k), b1, b2] = false ∧ validFrame c #v[b0, b1 ^^^ (1#8 <<< k), b2] = false) ∧
    (∀ x, x ≠ b2 → validFrame c #v[b0, b1, x] = false)

/-- 40_crc.md rules R81, R82, R84: an engine called by itself completes, answers its check value and writes no element of the
block's state. That the answer stands in `result` is the model's choice (log 6). -/
def Obligations.CrcCallsWriteNoState : Prop :=
  ∀ (data : List Byte) (s : State),
    exec (.crc8 data) s = .next { s with result := some (.crc8 (crc8 data)) } ∧
    exec (.crc16 data) s = .next { s with result := some (.crc16 (crc16 data)) }

/-! ## Validation -/

/-- 41_receiver.md rule R94: Valid(f) compares the address nibble with DEV_ADDR and the CRC8 of the first two bytes with the
third, and reads nothing of the configuration but DEV_ADDR. The place of the address nibble, byte 0 mod 16, is the spec's
decision D6 (30_encoding.md section 1; log 18, unsafe). -/
def Obligations.ValidFrameTest : Prop :=
  (∀ (c : Config) (f : Frame),
    validFrame c f = true ↔ f[0].toNat % 16 = c.params.devAddr ∧ crc8 [f[0], f[1]] = f[2]) ∧
  (∀ (c c' : Config) (f : Frame), c.params.devAddr = c'.params.devAddr → validFrame c f = validFrame c' f)

/-- 30_encoding.md rule R64 (the spec's decision D17): a frame with address 0 is never valid. -/
def Obligations.AddressZeroNeverMatches : Prop :=
  ∀ (c : Config) (f : Frame), addrOf f = 0x0#4 → validFrame c f = false

/-- 30_encoding.md rules R62, R65, 60_exceptions.md rule R142: what a completed frame does depends only on its class and,
for UPDATE_OUTPUTS, on its four LED bits. The reserved nibble, the LED bits of the other commands, the code of an
unrecognised command and the reason a frame is discarded make no difference. (TX_OVERLAP is the one case left out: there the
step is undone, with the received byte 0 still in RXBUF.) The case left out is the spec's decision D12 (log 16). -/
def Obligations.FrameClassDecidesOutcome : Prop :=
  ∀ (s : State) (f g : Frame) (off : Nat),
    s.started = true → s.linkRx = .armed off 2 →
    classify s.cfg f = classify s.cfg g →
    (classify s.cfg f = .validUpdateOutputs → ledsOf f = ledsOf g) →
    (s.txBusy = true → validFrame s.cfg f = false) →
    exec (.rxDoneRemainder [f[1], f[2]]) { s with rxbuf := #v[f[0], 0x00#8, 0x00#8] } =
      exec (.rxDoneRemainder [g[1], g[2]]) { s with rxbuf := #v[g[0], 0x00#8, 0x00#8] }

/-! ## Commands -/

/-- 42_dispatcher.md rule R111: a valid SEND_DATA changes nothing, whatever its LED and reserved bits; and a poll right
after ERROR_RESET, from the waiting receiver, sends ERR = NONE whatever was latched before. That command 0 is SEND_DATA and
2 is ERROR_RESET is the spec's decision D2 (log 3, unsafe); that the response follows the dispatch is D19 (log 24). -/
def Obligations.SendDataChangesNothing : Prop :=
  (∀ (s : State) (r : Request), validFrame s.cfg (frameOf cmdSendData r) = true → exec (.sendData r) s = .next s) ∧
  (∀ (s : State) (l : Byte), stateA s → s.started = true → s.txBusy = false →
    ∃ t r, runEvents ((ScriptLine.errRst s.cfg.devAddr).expand ++ [.txDone] ++
        (ScriptLine.frame s.cfg.devAddr cmdSendData l).expand) s = .next t ∧
      sent t.actions = [r] ∧ r[5] = s.cfg.errCodes.noError ∧ t.err = s.cfg.errCodes.noError)

/-- 42_dispatcher.md rules R112, R116: a valid UPDATE_OUTPUTS gives lane i the bit i - 1 of byte 1, emits the four SetLine
in order, and leaves every other element unchanged. Which bit of byte 1 is which line's is the spec's decision D6
(90_conflicts.md C2; log 18, unsafe); all four lines in order is D18 (log 24). -/
def Obligations.UpdateOutputsWritesEachLane : Prop :=
  ∀ (s : State) (r : Request), validFrame s.cfg (frameOf cmdUpdateOutputs r) = true →
    ∃ t, exec (.updateOutputs r) s = .next t ∧
      t = { s with
        led := r.leds
        actions := s.actions ++
          [.setLine .line1 (r.leds.getLsbD 0), .setLine .line2 (r.leds.getLsbD 1),
           .setLine .line3 (r.leds.getLsbD 2), .setLine .line4 (r.leds.getLsbD 3)] } ∧
      ∀ l : Line, t.outLine l = (frameOf cmdUpdateOutputs r)[1].getLsbD l.bit

/-- 42_dispatcher.md rule R113: a valid ERROR_RESET writes ERR <- NONE and nothing else; when the frame is completed, the
response sent for it already shows NONE. That command 2 is ERROR_RESET is the spec's decision D2 (log 3, unsafe); the
response after the dispatch is D19 (log 24), and the premise of no transmission in flight sets aside D12 (log 16). -/
def Obligations.ErrorResetClearsLatch : Prop :=
  ∀ (s : State) (r : Request), validFrame s.cfg (frameOf cmdErrorReset r) = true →
    exec (.errorReset r) s = .next { s with err := s.cfg.errCodes.noError } ∧
    (∀ off, s.started = true → s.linkRx = .armed off 2 → s.txBusy = false →
      s.rxbuf[0] = (frameOf cmdErrorReset r)[0] →
      ∃ t, exec (.rxDoneRemainder [(frameOf cmdErrorReset r)[1], (frameOf cmdErrorReset r)[2]]) s = .next t ∧
        t.err = s.cfg.errCodes.noError ∧ t.led = s.led ∧ t.txbuf[5] = s.cfg.errCodes.noError ∧
        sent t.actions = sent s.actions ++ [t.txbuf])

/-- 42_dispatcher.md rule R114: each of the 13 commands 0x3 to 0xF in a valid frame writes ERR <- INCORRECT_COMMAND and
nothing else; when the frame is completed it is still answered, and the response shows the code. Which codes are
unrecognised follows from the spec's decision D2 (log 3, unsafe); the response after the dispatch is D19 (log 24), and the
premise of no transmission in flight sets aside D12 (log 16). -/
def Obligations.UnrecognisedCommandsLatch : Prop :=
  ∀ row ∈ [((0x3#4 : Nibble), Instr.cmdUnrecognised3), (0x4#4, .cmdUnrecognised4), (0x5#4, .cmdUnrecognised5),
      (0x6#4, .cmdUnrecognised6), (0x7#4, .cmdUnrecognised7), (0x8#4, .cmdUnrecognised8), (0x9#4, .cmdUnrecognised9),
      (0xA#4, .cmdUnrecognisedA), (0xB#4, .cmdUnrecognisedB), (0xC#4, .cmdUnrecognisedC), (0xD#4, .cmdUnrecognisedD),
      (0xE#4, .cmdUnrecognisedE), (0xF#4, .cmdUnrecognisedF)],
    ∀ (s : State) (r : Request), validFrame s.cfg (frameOf row.1 r) = true →
      exec (row.2 r) s = .next { s with err := s.cfg.errCodes.incorrectCommand } ∧
      (∀ off, s.started = true → s.linkRx = .armed off 2 → s.txBusy = false → s.rxbuf[0] = (frameOf row.1 r)[0] →
        ∃ t, exec (.rxDoneRemainder [(frameOf row.1 r)[1], (frameOf row.1 r)[2]]) s = .next t ∧
          t.err = s.cfg.errCodes.incorrectCommand ∧ t.led = s.led ∧ t.txbuf[5] = s.cfg.errCodes.incorrectCommand ∧
          sent t.actions = sent s.actions ++ [t.txbuf])

/-- The model's choice (log 8), after opcode_table.json's "the frame executes only if …": a command row executed with a frame
that is not valid completes and has no effect. -/
def Obligations.InvalidCommandRowsDoNothing : Prop :=
  ∀ (i : Instr) (f : Frame) (s : State), encode i = .request24 f → validFrame s.cfg f = false → exec i s = .next s

/-- 42_dispatcher.md rules R110, R115: completing a valid frame runs the command its bytes decode to, on the state in which
the two bytes have landed; the response that follows reports what the command left. That the bytes land at this step is the
spec's decision D10 (log 17), the response after the dispatch D19 (log 24), and the premise of no transmission in flight
sets aside D12 (log 16). A command row executed by itself is the model's reading (log 8). -/
def Obligations.RemainderRunsDecodedCommand : Prop :=
  ∀ (s : State) (d1 d2 : Byte) (off : Nat), s.started = true → s.linkRx = .armed off 2 → s.txBusy = false →
    validFrame s.cfg #v[s.rxbuf[0], d1, d2] = true →
    ∃ i u t, decode [s.rxbuf[0], d1, d2] = .ok (i, []) ∧
      exec i { s with rxbuf := #v[s.rxbuf[0], d1, d2], linkRx := .none } = .next u ∧
      exec (.rxDoneRemainder [d1, d2]) s = .next t ∧
      t.led = u.led ∧ t.err = u.err ∧ t.txbuf = packResponse u.temp u.volt u.led u.button u.err ∧
      t.actions = u.actions ++ [.tx t.txbuf, .armRx 0 1]

/-! ## The receiver -/

/-- 41_receiver.md rule R91 (with the spec's decisions D5, D10, D20): START re-arms the receiver from every state and
touches nothing else. RX_TICKS set to 0 is the spec's decision D5, no AbortRx D10 (log 17), the zero fill of RXBUF D20
(log 24). -/
def Obligations.StartRearmsReceiver : Prop :=
  ∀ s : State, ∃ t, exec .start s = .next t ∧ stateA t ∧ t.started = true ∧ t.actions = s.actions ++ [.armRx 0 1] ∧
    t = { s with
      cursor := t.cursor, rxTicks := t.rxTicks, rxbuf := t.rxbuf, linkRx := t.linkRx, started := t.started,
      actions := t.actions }

/-- 41_receiver.md rule R101: a second START leaves the state the first one left; on a waiting, started receiver a START
changes no element of the state. It rests on what START writes: RX_TICKS 0, the spec's decision D5, RXBUF zero-filled, D20
(log 24), and a new arm request superseding the old one, D10 (log 17). -/
def Obligations.StartIsIdempotent : Prop :=
  (∀ s : State, runEvents [.start, .start] s = runEvents [.start] s) ∧
  (∀ s : State, stateA s → s.started = true →
    react .start s = .next { s with actions := [.armRx 0 1], result := none })

/-- 41_receiver.md rule R92, with the checks of R99 passed: the first-byte phase. -/
def Obligations.FirstBytePhase : Prop :=
  ∀ (s : State) (d0 : Byte) (off : Nat), s.started = true → s.linkRx = .armed off 1 →
    exec (.rxDoneFirst [d0]) s = .next { s with
      rxbuf := #v[d0, s.rxbuf[1], s.rxbuf[2]]
      cursor := .inProgress
      linkRx := .armed 1 2
      actions := s.actions ++ [.armRx 1 2] }

/-- 41_receiver.md rule R93, 43_response.md rule R126: a valid frame is dispatched, answered once with the state after
dispatch, and the receive is re-armed; every other element is unchanged. The command values 0 and 2 are the spec's decision
D2 (log 3, unsafe), the four SetLine in order D18, the zero fill of RXBUF D20 (log 24), the LED bits' places D6 (log 18),
and that a response in flight is excluded D12 (log 16). RX_TICKS set to 0 is the spec's decision D5, and the response after
the dispatch D19 (log 24). -/
def Obligations.RemainderAnswersValidFrame : Prop :=
  ∀ (s : State) (d1 d2 : Byte) (off : Nat), s.started = true → s.linkRx = .armed off 2 → s.txBusy = false →
    validFrame s.cfg #v[s.rxbuf[0], d1, d2] = true →
    let cmd := s.rxbuf[0].toNat / 16
    let led := if cmd = 1 then d1.extractLsb' 0 4 else s.led
    let err := if cmd = 0 ∨ cmd = 1 then s.err
      else if cmd = 2 then s.cfg.errCodes.noError else s.cfg.errCodes.incorrectCommand
    let response := packResponse s.temp s.volt led s.button err
    exec (.rxDoneRemainder [d1, d2]) s = .next { s with
      cursor := .waitFirst
      rxTicks := 0
      rxbuf := #v[0x00#8, 0x00#8, 0x00#8]
      linkRx := .armed 0 1
      led := led
      err := err
      txbuf := response
      txBusy := true
      actions := s.actions ++
        (if cmd = 1 then
          [.setLine .line1 (d1.getLsbD 0), .setLine .line2 (d1.getLsbD 1), .setLine .line3 (d1.getLsbD 2),
           .setLine .line4 (d1.getLsbD 3)]
        else []) ++ [.tx response, .armRx 0 1] }

/-- 41_receiver.md rule R95: a frame that is not valid has no effect beyond the re-arm: no response, no latched code. What
the re-arm writes is R91's: RX_TICKS 0 is the spec's decision D5, the zero fill of RXBUF D20 (log 24). -/
def Obligations.InvalidFrameIsDiscarded : Prop :=
  ∀ (s : State) (d1 d2 : Byte) (off : Nat), s.started = true → s.linkRx = .armed off 2 →
    validFrame s.cfg #v[s.rxbuf[0], d1, d2] = false →
    exec (.rxDoneRemainder [d1, d2]) s = .next { s with
      cursor := .waitFirst
      rxTicks := 0
      rxbuf := #v[0x00#8, 0x00#8, 0x00#8]
      linkRx := .armed 0 1
      actions := s.actions ++ [.armRx 0 1] }

/-- 41_receiver.md rule R96: whatever the frame and the command, the remainder phase ends with the receiver re-armed. (A
response that would overlap one in flight is undone as a whole: `TransmitOverlapUndoesStep`.) The re-armed state has
RX_TICKS 0, the spec's decision D5, and RXBUF zero-filled, D20 (log 24); the case set aside is D12 (log 16). -/
def Obligations.RearmIsUnconditional : Prop :=
  ∀ (s : State) (d1 d2 : Byte) (off : Nat), s.started = true → s.linkRx = .armed off 2 →
    ¬ (s.txBusy = true ∧ validFrame s.cfg #v[s.rxbuf[0], d1, d2] = true) →
    ∃ t, exec (.rxDoneRemainder [d1, d2]) s = .next t ∧ stateA t ∧ t.started = true ∧
      t.actions.getLast? = some (.armRx 0 1)

/-- 41_receiver.md rule R97: TICK in the waiting receiver holds the counter at 0, or raises EVENT_BEFORE_START before START;
any number of ticks leave a started, waiting receiver as it is. EVENT_BEFORE_START is the spec's decision D9 (log 21), and
that it answers a next state is log 7. -/
def Obligations.TickWhileWaiting : Prop :=
  (∀ s : State, s.started = true → exec .tickWait s = .next { s with rxTicks := 0 }) ∧
  (∀ s : State, s.started = false →
    exec .tickWait s = .next { s with faulted := s.faulted.or (some .eventBeforeStart) }) ∧
  (∀ (s : State) (n : Nat), stateA s → s.started = true →
    runEvents (List.replicate (n + 1) .tick) s = .next { s with actions := [], result := none })

/-- 41_receiver.md rule R98: the timeout supervisor on a frame in progress. Increment, then compare, is the spec's decision
D5 (log 24, unsafe); the zero fill of RXBUF in the abort is D20 (log 24). -/
def Obligations.TickWhileInProgress : Prop :=
  ∀ s : State, s.started = true →
    (s.rxTicks + 1 < s.cfg.tRxTimeout → exec .tickInProgress s = .next { s with rxTicks := s.rxTicks + 1 }) ∧
    (s.cfg.tRxTimeout ≤ s.rxTicks + 1 → exec .tickInProgress s = .next { s with
      cursor := .waitFirst
      rxTicks := 0
      rxbuf := #v[0x00#8, 0x00#8, 0x00#8]
      linkRx := .armed 0 1
      actions := s.actions ++ [.abortRx, .armRx 0 1] })

/-- 41_receiver.md rule R100: after a first byte, the T_RX_TIMEOUT-th TICK aborts and re-arms, and no earlier TICK does.
(The count rests on the spec's decision D5, increment, then compare, the zero fill on D20; log 24.) -/
def Obligations.TimeoutAbortsOnThreshold : Prop :=
  ∀ s : State, stateB s → s.started = true → s.rxTicks = 0 →
    (∀ n, n + 1 < s.cfg.tRxTimeout →
      runEvents (List.replicate (n + 1) .tick) s = .next { s with rxTicks := n + 1, actions := [], result := none }) ∧
    runEvents (List.replicate s.cfg.tRxTimeout .tick) s = .next { s with
      cursor := .waitFirst
      rxTicks := 0
      rxbuf := #v[0x00#8, 0x00#8, 0x00#8]
      linkRx := .armed 0 1
      actions := [.abortRx, .armRx 0 1]
      result := none }

/-- 41_receiver.md rule R102: a step emits AbortRx only for a TICK that finds a frame in progress at its last tick; it does
not touch a transmission in flight, nor the latches. That the last tick is the one with T_RX_TIMEOUT <= RX_TICKS + 1,
increment, then compare, is the spec's decision D5 (log 24, unsafe). -/
def Obligations.AbortOnlyOnTimeout : Prop :=
  ∀ s t : State, step s = .next t → .abortRx ∈ t.actions →
    s.cursor = .inProgress ∧ s.inbox.head? = some .tick ∧ s.started = true ∧ s.cfg.tRxTimeout ≤ s.rxTicks + 1 ∧
      t.txBusy = s.txBusy ∧ t.txbuf = s.txbuf ∧ t.led = s.led ∧ t.err = s.err

/-- 10_state.md rule R21: CURSOR goes to IN_PROGRESS only for a first byte, and back only for START, a two-byte delivery or
a timeout. The timeout clause, increment, then compare, is the spec's decision D5, and that CURSOR selects the phase of a
delivery D1 (log 24, both unsafe). -/
def Obligations.CursorTransitions : Prop :=
  ∀ s t : State, step s = .next t →
    (s.cursor = .waitFirst → t.cursor = .inProgress → ∃ d0, s.inbox.head? = some (.rxDone [d0])) ∧
    (s.cursor = .inProgress → t.cursor = .waitFirst →
      s.inbox.head? = some .start ∨ (∃ d1 d2, s.inbox.head? = some (.rxDone [d1, d2])) ∨
        (s.inbox.head? = some .tick ∧ s.cfg.tRxTimeout ≤ s.rxTicks + 1))

/-- 41_receiver.md rule R103, first half: from every started state that meets the invariant, at most T_RX_TIMEOUT ticks
bring the receiver back to waiting for a first byte, with no model fault (R145, 60_exceptions.md section 2). The bound of
T_RX_TIMEOUT ticks rests on the spec's decision D5, increment, then compare (log 24). The zero fill of RXBUF in the state
reached is D20 (log 24). -/
def Obligations.NoLockout : Prop :=
  ∀ s : State, Inv s → s.started = true →
    ∃ n ≤ s.cfg.tRxTimeout, ∃ t, runEvents (List.replicate n .tick) s = .next t ∧ stateA t ∧ t.faulted = s.faulted ∧
      t.led = s.led ∧ t.err = s.err

/-- 41_receiver.md rules R100, R103, second half: from the waiting receiver, a valid frame whose two parts are fewer than
T_RX_TIMEOUT ticks apart is dispatched and answered. The bound rests on the spec's decision D5 (log 24), the command values
of SEND_DATA and ERROR_RESET on D2 (log 3). The zero fill in the last state is D20, the response after the dispatch D19
(log 24), the LED bits' places D6 (log 18, unsafe), and the premise of no transmission in flight sets aside D12 (log 16). -/
def Obligations.TimelyFrameIsAnswered : Prop :=
  ∀ (s : State) (f : Frame) (n : Nat), stateA s → s.started = true → s.txBusy = false → validFrame s.cfg f = true →
    n < s.cfg.tRxTimeout →
    ∃ t, runEvents ([.rxDone [f[0]]] ++ List.replicate n .tick ++ [.rxDone [f[1], f[2]]]) s = .next t ∧
      stateA t ∧ t.started = true ∧ t.txBusy = true ∧ t.faulted = s.faulted ∧
      t.led = (if cmdOf f = cmdUpdateOutputs then ledsOf f else s.led) ∧
      sent t.actions = [packResponse s.temp s.volt t.led s.button t.err] ∧
      (t.err = if cmdOf f = cmdErrorReset then s.cfg.errCodes.noError
        else if cmdOf f = cmdSendData ∨ cmdOf f = cmdUpdateOutputs then s.err
        else s.cfg.errCodes.incorrectCommand)

/-! ## Error latch, telemetry, response -/

/-- 60_exceptions.md rule R141: a transport fault of each kind records that kind's code and nothing else; a fault of another
kind records nothing. That nothing else changes, LINK_RX and CURSOR among it, so that a fault cancels no receive, is the
spec's decision D11 (43_response.md section 1, R122; log 15, unsafe). -/
def Obligations.FaultRecordsItsCode : Prop :=
  ∀ s : State, s.started = true →
    exec (.faultRecognised .parity) s = .next { s with err := s.cfg.errCodes.parity } ∧
    exec (.faultRecognised .noise) s = .next { s with err := s.cfg.errCodes.noise } ∧
    exec (.faultRecognised .framing) s = .next { s with err := s.cfg.errCodes.framing } ∧
    exec (.faultRecognised .overrun) s = .next { s with err := s.cfg.errCodes.overrun } ∧
    exec (.faultRecognised .dma) s = .next { s with err := s.cfg.errCodes.dma } ∧
    ∀ x, exec (.faultOther x) s = .next s

/-- 43_response.md rules R123 to R125 (before or after START: the spec's decision D9): each setter completes in every state
and writes its register alone. Each write is one step: the spec's decision D15 (log 14). -/
def Obligations.SettersWriteTheirRegister : Prop :=
  ∀ s : State,
    (∀ v, exec (.setTemp v) s = .next { s with temp := v }) ∧
    (∀ v, exec (.setVolt v) s = .next { s with volt := v }) ∧
    (∀ b, exec (.setButton b) s = .next { s with button := b })

/-- 43_response.md rule R126 (TX_OVERLAP: the spec's decision D12, log 16): the response builder writes TXBUF and TX_BUSY
and emits one Tx with the packed state; while TX_BUSY it only raises TX_OVERLAP. The packed bytes' order is D7 and D6
(log 18, unsafe); that TX_OVERLAP answers a next state is log 7; executing the row by itself is the model's choice
(log 23). -/
def Obligations.BuildAndSendPacksState : Prop :=
  ∀ s : State,
    (s.txBusy = false → exec .buildAndSend s = .next { s with
      txbuf := packResponse s.temp s.volt s.led s.button s.err
      txBusy := true
      actions := s.actions ++ [.tx (packResponse s.temp s.volt s.led s.button s.err)] }) ∧
    (s.txBusy = true → exec .buildAndSend s = .next { s with faulted := s.faulted.or (some .txOverlap) })

/-- 43_response.md rule R129 (TX_DONE_UNEXPECTED: the spec's decision D12): TX_DONE ends the transmission and touches
nothing else; with none in flight it raises TX_DONE_UNEXPECTED. That TX_DONE_UNEXPECTED answers a next state is log 7. -/
def Obligations.TxDoneEndsTransmission : Prop :=
  ∀ s : State, s.started = true →
    (s.txBusy = true → exec .txDone s = .next { s with txBusy := false }) ∧
    (s.txBusy = false → exec .txDone s = .next { s with faulted := s.faulted.or (some .txDoneUnexpected) })

/-- 43_response.md rules R127, R115: every Tx a step emits is the response of the state the step leaves, the one TXBUF
holds; it is emitted for a completed valid frame only, and each such frame with no transmission in flight is answered once.
The response after the dispatch is the spec's decision D19 (log 24); the premise of no transmission in flight sets aside D12
(log 16). -/
def Obligations.EveryTxIsFresh : Prop :=
  ∀ (s t : State) (e : Event) (rest : List Event), s.inbox = e :: rest → step s = .next t →
    (∀ r ∈ sent t.actions, r = packResponse t.temp t.volt t.led t.button t.err ∧ r = t.txbuf ∧ responseDue s e = true) ∧
    (responseDue s e = true → s.txBusy = false → sent t.actions = [t.txbuf])

/-- 43_response.md rule R131: ERR changes only through a recognised FAULT, a valid ERROR_RESET frame or a valid frame with an
unrecognised command, each writing its own code; and a device reset clears it. -/
def Obligations.ErrChangesOnlyThroughWriters : Prop :=
  (∀ s t : State, step s = .next t → t.err ≠ s.err →
    (∃ k, s.inbox.head? = some (.fault (.recognised k)) ∧ t.err = faultCode s.cfg.errCodes k) ∨
    (∃ e f, s.inbox.head? = some e ∧ completedFrame s e = some f ∧ validFrame s.cfg f = true ∧
      ((cmdOf f = cmdErrorReset ∧ t.err = s.cfg.errCodes.noError) ∨
       (cmdOf f ≠ cmdSendData ∧ cmdOf f ≠ cmdUpdateOutputs ∧ cmdOf f ≠ cmdErrorReset ∧
         t.err = s.cfg.errCodes.incorrectCommand)))) ∧
  (∀ s : State, (powerCycle s).err = s.cfg.errCodes.noError)

/-- 70_reset_and_hazards.md rule R166: no step clears a latched error but one that completes a valid ERROR_RESET frame; a power
cycle does, and nothing but the configuration survives it. -/
def Obligations.OnlyErrorResetClearsErr : Prop :=
  (∀ s t : State, step s = .next t → s.err ≠ s.cfg.errCodes.noError → t.err = s.cfg.errCodes.noError →
    ∃ e f, s.inbox.head? = some e ∧ completedFrame s e = some f ∧ validFrame s.cfg f = true ∧ cmdOf f = cmdErrorReset) ∧
  (∀ s s' : State, s.cfg = s'.cfg → powerCycle s = powerCycle s' ∧ (powerCycle s).err = s.cfg.errCodes.noError)

/-- 10_state.md rule R25, 42_dispatcher.md rule R116: LED changes only in a step that completes a valid UPDATE_OUTPUTS
frame, and then to the frame's bits. The places of the LED bits are the spec's decision D6 (log 18, unsafe). -/
def Obligations.LedChangesOnlyOnUpdate : Prop :=
  ∀ s t : State, step s = .next t → t.led ≠ s.led →
    ∃ e f, s.inbox.head? = some e ∧ completedFrame s e = some f ∧ validFrame s.cfg f = true ∧
      cmdOf f = cmdUpdateOutputs ∧ t.led = ledsOf f

/-- 10_state.md rule R39: the lines and the mirror never disagree. After a step each line is the latch's bit; a SetLine the
step emitted names the value the line now has, and a line that changed has one. -/
def Obligations.LinesAgreeWithLatch : Prop :=
  ∀ s t : State, step s = .next t → ∀ l : Line,
    t.outLine l = t.led.getLsbD l.bit ∧
    (∀ b, .setLine l b ∈ t.actions → t.outLine l = b) ∧
    (t.outLine l ≠ s.outLine l → .setLine l (t.outLine l) ∈ t.actions)

/-- 10_state.md rules R27 to R29, R37: the telemetry registers change only to the value the setter of each stages. A setter
is one step: the spec's decision D15 (log 14, unsafe on a platform that tears it). -/
def Obligations.TelemetryChangesOnlyBySetters : Prop :=
  ∀ s t : State, step s = .next t →
    (t.temp = s.temp ∨ s.inbox.head? = some (.setTemp t.temp)) ∧
    (t.volt = s.volt ∨ s.inbox.head? = some (.setVolt t.volt)) ∧
    (t.button = s.button ∨ s.inbox.head? = some (.setButton t.button))

/-! ## Model faults -/

/-- 60_exceptions.md rule R144, EVENT_BEFORE_START (the spec's decision D9): before START, each of RX_DONE, TICK, FAULT and
TX_DONE leaves the state unchanged but for the mark. That the fault answers a next state is log 7; the check comes first
(log 21). -/
def Obligations.EventsBeforeStartAreMarked : Prop :=
  ∀ s : State, s.started = false →
    ∀ i : Instr, (∃ d, i = .rxDoneFirst d ∨ i = .rxDoneRemainder d) ∨ i = .tickWait ∨ i = .tickInProgress ∨
        (∃ k, i = .faultRecognised k) ∨ (∃ x, i = .faultOther x) ∨ i = .txDone →
      exec i s = .next { s with faulted := s.faulted.or (some .eventBeforeStart) }

/-- 41_receiver.md rule R99, RX_UNARMED (the spec's decision D10): a delivery that nothing armed, or of another length than
the armed one, leaves the state unchanged but for the mark, in either phase. That the fault answers a next state is
log 7. -/
def Obligations.UnarmedDeliveryIsMarked : Prop :=
  ∀ (s : State) (d : List Byte), s.started = true → (∀ off, s.linkRx ≠ .armed off d.length) →
    exec (.rxDoneFirst d) s = .next { s with faulted := s.faulted.or (some .rxUnarmed) } ∧
    exec (.rxDoneRemainder d) s = .next { s with faulted := s.faulted.or (some .rxUnarmed) }

/-- 43_response.md rules R126, R128 (the spec's decision D12): a valid frame completed while a transmission is in flight
leaves the whole state as it was before the step, Dispatch's writes included, but for the mark. That the fault answers a
next state is log 7. -/
def Obligations.TransmitOverlapUndoesStep : Prop :=
  ∀ (s : State) (d1 d2 : Byte) (off : Nat), s.started = true → s.linkRx = .armed off 2 → s.txBusy = true →
    validFrame s.cfg #v[s.rxbuf[0], d1, d2] = true →
    exec (.rxDoneRemainder [d1, d2]) s = .next { s with faulted := s.faulted.or (some .txOverlap) }

/-- 60_exceptions.md rule R144 (the spec's decisions D9, D10, D12): from every state that meets the invariant, an event
raises exactly the model fault of the table, with the rest of the state unchanged, and otherwise raises none. That a fault
answers a next state is log 7; that CURSOR tells a completed frame is the spec's decision D1 (log 24). -/
def Obligations.ModelFaultsExactlyAsTabled : Prop :=
  ∀ (s : State) (e : Event), Inv s →
    (∀ k, modelFault s e = some k →
      react e s = .next { s with faulted := s.faulted.or (some k), actions := [], result := none }) ∧
    (modelFault s e = none → ∃ t, react e s = .next t ∧ t.faulted = s.faulted)

/-- 10_state.md rule R35: once FAULTED is set, no step changes it. The mark is the spec's decision D9; that steps go on
after a fault is log 7. -/
def Obligations.FaultMarkIsPermanent : Prop :=
  ∀ (s t : State) (k : ModelFaultKind), step s = .next t → s.faulted = some k → t.faulted = some k

/-- 00_scope.md rule R15, 60_exceptions.md rule R144: a step that sets the mark does nothing else; it emits no action. That
the fault answers a next state is log 7, and that the event leaves the inbox log 4. -/
def Obligations.FaultingStepOnlySetsMark : Prop :=
  ∀ s t : State, step s = .next t → t.faulted ≠ s.faulted →
    ∃ k, t = { s with faulted := some k, inbox := s.inbox.tail, actions := [], result := none }

/-- 60_exceptions.md rule R154, 70_reset_and_hazards.md rules R167, R171: a run on a platform that keeps its contract, with
a requester that waits for its responses, raises no model fault and keeps the invariant. The contract is the spec's
decisions D9, D10 and D12 (log 21, 17, 16); the invariant's zero-filled RXBUF is D20, its bound on RX_TICKS D5, and that
CURSOR selects the phase D1 (log 24). -/
def Obligations.ContractRunsAreSafe : Prop :=
  ∀ (es : List Event) (s : State), Inv s → s.safe → keepsContract es s →
    ∃ t, runEvents es s = .next t ∧ t.safe ∧ Inv t

/-! ## The whole machine -/

/-- 41_receiver.md rule R90 and the event rows of opcode_table.json (one event a step, from the inbox: the model's choice,
log 4; that CURSOR alone selects the phase of RX_DONE: the spec's decision D1, log 24, unsafe): a step takes the oldest
event, with the outputs of the last step gone, and runs the row that CURSOR selects. With no event pending nothing changes.
That the last step's outputs are gone is log 4 and log 5. -/
def Obligations.StepRunsDecodedInstruction : Prop :=
  (∀ (s : State) (e : Event) (rest : List Event), s.inbox = e :: rest →
    step s = exec (decodeEvent s.cursor e) { s with inbox := rest, actions := [], result := none }) ∧
  (∀ s : State, s.inbox = [] → step s = .next { s with actions := [], result := none }) ∧
  (∀ (s : State) (d : List Byte),
    (s.cursor = .waitFirst → decodeEvent s.cursor (.rxDone d) = .rxDoneFirst d ∧ decodeEvent s.cursor .tick = .tickWait) ∧
    (s.cursor = .inProgress →
      decodeEvent s.cursor (.rxDone d) = .rxDoneRemainder d ∧ decodeEvent s.cursor .tick = .tickInProgress))

/-- 60_exceptions.md rule R145: every step and every row of the table answers a next state. That a model fault answers a
next state is log 7, and that an empty inbox does log 4; the rows executed by themselves are log 6, 8 and 23. -/
def Obligations.EveryStepAnswersNext : Prop :=
  (∀ s : State, ∃ t, step s = .next t) ∧ (∀ (i : Instr) (s : State), ∃ t, exec i s = .next t)

/-- 10_state.md rules R22, R23, R26, 30_encoding.md rule R63: every step from every state that meets the invariant leaves
one that does. The zero-filled RXBUF is the spec's decision D20, the bound on RX_TICKS D5, that CURSOR selects the phase D1
(log 24); the armed lengths are D10 (log 17), the quiescent start D9 (log 21), the response's byte order D7 (log 18); a
fault step is log 7. -/
def Obligations.EveryStepKeepsInvariant : Prop :=
  ∀ s t : State, Inv s → step s = .next t → Inv t

/-- The invariant holds at reset, for every configuration (the reset values are the spec's decision D8). State.reset's
configuration is the model's choice (log 2), the reset values log 12. -/
def Obligations.ResetMeetsInvariant : Prop :=
  Inv State.reset ∧ ∀ c : Config, Inv (State.resetWith c)

/-- 70_reset_and_hazards.md rule R165: a reset from any state puts every element at its reset value. The values are the
spec's decision D8. They are log 12; that a reset is an operation beside the step is log 20. -/
def Obligations.ResetValues : Prop :=
  ∀ s : State,
    (powerCycle s).cursor = .waitFirst ∧ (powerCycle s).rxTicks = 0 ∧ (powerCycle s).rxbuf = #v[0x00#8, 0x00#8, 0x00#8] ∧
    (∀ l, (powerCycle s).outLine l = false) ∧ (powerCycle s).err = s.cfg.errCodes.noError ∧ (powerCycle s).temp = 0 ∧
    (powerCycle s).volt = 0 ∧ (powerCycle s).button = false ∧ (∀ i : Fin 8, (powerCycle s).txByte i = 0x00#8) ∧
    (powerCycle s).started = false ∧ (powerCycle s).linkRx = .none ∧ (powerCycle s).txBusy = false ∧
    (powerCycle s).faulted = none ∧ (powerCycle s).actions = [] ∧ (powerCycle s).cfg = s.cfg

/-- 00_scope.md rule R6: DEV_ADDR is between 1 and 15 in every state; a configuration with DEV_ADDR = 0, or with one that does
not fit in 4 bits, is refused; no step changes DEV_ADDR. -/
def Obligations.DevAddrIsFixed : Prop :=
  (∀ s : State, 1 ≤ s.cfg.params.devAddr ∧ s.cfg.params.devAddr ≤ 15 ∧ s.cfg.devAddr.toNat = s.cfg.params.devAddr) ∧
  (∀ p : Params, p.devAddr = 0 ∨ 16 ≤ p.devAddr → instantiate p = .refused .configInvalid) ∧
  (∀ s t : State, step s = .next t → t.cfg.params.devAddr = s.cfg.params.devAddr)

/-- 00_scope.md rules R6, R7, 60_exceptions.md rule R144, 70_reset_and_hazards.md rule R167 (that CONFIG_INVALID is a
refusal and the configuration part of the state are the model's choices, log 1): the block is built, in its reset state,
exactly for 1 <= DEV_ADDR <= 15 and T_RX_TIMEOUT >= 1, and no step changes the configuration. -/
def Obligations.ConfigurationIsCheckedAndFixed : Prop :=
  (∀ p : Params, 1 ≤ p.devAddr → p.devAddr ≤ 15 → 1 ≤ p.tRxTimeout →
    ∃ c : Config, c.params = p ∧ instantiate p = .next (State.resetWith c)) ∧
  (∀ p : Params, p.devAddr = 0 ∨ 16 ≤ p.devAddr ∨ p.tRxTimeout = 0 → instantiate p = .refused .configInvalid) ∧
  (∀ s t : State, step s = .next t → t.cfg = s.cfg)
end

