-- ==== Sys2Proof/Laws/State.lean ====
section
/-! SUPPORT. One lemma for each field of State and each named update, so that no later proof unfolds a record update. -/

namespace Sys2Proof.Machine

variable (s : State)

@[simp] theorem emit_cfg (a : Action) : (emit a s).cfg = s.cfg := rfl
@[simp] theorem emit_cursor (a : Action) : (emit a s).cursor = s.cursor := rfl
@[simp] theorem emit_rxTicks (a : Action) : (emit a s).rxTicks = s.rxTicks := rfl
@[simp] theorem emit_rxbuf (a : Action) : (emit a s).rxbuf = s.rxbuf := rfl
@[simp] theorem emit_led (a : Action) : (emit a s).led = s.led := rfl
@[simp] theorem emit_err (a : Action) : (emit a s).err = s.err := rfl
@[simp] theorem emit_temp (a : Action) : (emit a s).temp = s.temp := rfl
@[simp] theorem emit_volt (a : Action) : (emit a s).volt = s.volt := rfl
@[simp] theorem emit_button (a : Action) : (emit a s).button = s.button := rfl
@[simp] theorem emit_txbuf (a : Action) : (emit a s).txbuf = s.txbuf := rfl
@[simp] theorem emit_started (a : Action) : (emit a s).started = s.started := rfl
@[simp] theorem emit_linkRx (a : Action) : (emit a s).linkRx = s.linkRx := rfl
@[simp] theorem emit_txBusy (a : Action) : (emit a s).txBusy = s.txBusy := rfl
@[simp] theorem emit_faulted (a : Action) : (emit a s).faulted = s.faulted := rfl
@[simp] theorem emit_inbox (a : Action) : (emit a s).inbox = s.inbox := rfl
@[simp] theorem emit_actions (a : Action) : (emit a s).actions = s.actions ++ [a] := rfl
@[simp] theorem emit_result (a : Action) : (emit a s).result = s.result := rfl

@[simp] theorem markFault_cfg (k : ModelFaultKind) : (markFault k s).cfg = s.cfg := rfl
@[simp] theorem markFault_cursor (k : ModelFaultKind) : (markFault k s).cursor = s.cursor := rfl
@[simp] theorem markFault_rxTicks (k : ModelFaultKind) : (markFault k s).rxTicks = s.rxTicks := rfl
@[simp] theorem markFault_rxbuf (k : ModelFaultKind) : (markFault k s).rxbuf = s.rxbuf := rfl
@[simp] theorem markFault_led (k : ModelFaultKind) : (markFault k s).led = s.led := rfl
@[simp] theorem markFault_err (k : ModelFaultKind) : (markFault k s).err = s.err := rfl
@[simp] theorem markFault_temp (k : ModelFaultKind) : (markFault k s).temp = s.temp := rfl
@[simp] theorem markFault_volt (k : ModelFaultKind) : (markFault k s).volt = s.volt := rfl
@[simp] theorem markFault_button (k : ModelFaultKind) : (markFault k s).button = s.button := rfl
@[simp] theorem markFault_txbuf (k : ModelFaultKind) : (markFault k s).txbuf = s.txbuf := rfl
@[simp] theorem markFault_started (k : ModelFaultKind) : (markFault k s).started = s.started := rfl
@[simp] theorem markFault_linkRx (k : ModelFaultKind) : (markFault k s).linkRx = s.linkRx := rfl
@[simp] theorem markFault_txBusy (k : ModelFaultKind) : (markFault k s).txBusy = s.txBusy := rfl
@[simp] theorem markFault_faulted (k : ModelFaultKind) : (markFault k s).faulted = s.faulted.or (some k) := rfl
@[simp] theorem markFault_inbox (k : ModelFaultKind) : (markFault k s).inbox = s.inbox := rfl
@[simp] theorem markFault_actions (k : ModelFaultKind) : (markFault k s).actions = s.actions := rfl
@[simp] theorem markFault_result (k : ModelFaultKind) : (markFault k s).result = s.result := rfl

@[simp] theorem driveLine_cfg (l : Line) (b : Bool) : (driveLine l b s).cfg = s.cfg := rfl
@[simp] theorem driveLine_cursor (l : Line) (b : Bool) : (driveLine l b s).cursor = s.cursor := rfl
@[simp] theorem driveLine_rxTicks (l : Line) (b : Bool) : (driveLine l b s).rxTicks = s.rxTicks := rfl
@[simp] theorem driveLine_rxbuf (l : Line) (b : Bool) : (driveLine l b s).rxbuf = s.rxbuf := rfl
@[simp] theorem driveLine_led (l : Line) (b : Bool) : (driveLine l b s).led = writeBit s.led l.bit b := rfl
@[simp] theorem driveLine_err (l : Line) (b : Bool) : (driveLine l b s).err = s.err := rfl
@[simp] theorem driveLine_temp (l : Line) (b : Bool) : (driveLine l b s).temp = s.temp := rfl
@[simp] theorem driveLine_volt (l : Line) (b : Bool) : (driveLine l b s).volt = s.volt := rfl
@[simp] theorem driveLine_button (l : Line) (b : Bool) : (driveLine l b s).button = s.button := rfl
@[simp] theorem driveLine_txbuf (l : Line) (b : Bool) : (driveLine l b s).txbuf = s.txbuf := rfl
@[simp] theorem driveLine_started (l : Line) (b : Bool) : (driveLine l b s).started = s.started := rfl
@[simp] theorem driveLine_linkRx (l : Line) (b : Bool) : (driveLine l b s).linkRx = s.linkRx := rfl
@[simp] theorem driveLine_txBusy (l : Line) (b : Bool) : (driveLine l b s).txBusy = s.txBusy := rfl
@[simp] theorem driveLine_faulted (l : Line) (b : Bool) : (driveLine l b s).faulted = s.faulted := rfl
@[simp] theorem driveLine_inbox (l : Line) (b : Bool) : (driveLine l b s).inbox = s.inbox := rfl
@[simp] theorem driveLine_actions (l : Line) (b : Bool) : (driveLine l b s).actions = s.actions ++ [.setLine l b] := rfl
@[simp] theorem driveLine_result (l : Line) (b : Bool) : (driveLine l b s).result = s.result := rfl

@[simp] theorem errorReset_cfg (f : Frame) : (errorReset f s).cfg = s.cfg := rfl
@[simp] theorem errorReset_cursor (f : Frame) : (errorReset f s).cursor = s.cursor := rfl
@[simp] theorem errorReset_rxTicks (f : Frame) : (errorReset f s).rxTicks = s.rxTicks := rfl
@[simp] theorem errorReset_rxbuf (f : Frame) : (errorReset f s).rxbuf = s.rxbuf := rfl
@[simp] theorem errorReset_led (f : Frame) : (errorReset f s).led = s.led := rfl
@[simp] theorem errorReset_err (f : Frame) : (errorReset f s).err = s.cfg.errCodes.noError := rfl
@[simp] theorem errorReset_temp (f : Frame) : (errorReset f s).temp = s.temp := rfl
@[simp] theorem errorReset_volt (f : Frame) : (errorReset f s).volt = s.volt := rfl
@[simp] theorem errorReset_button (f : Frame) : (errorReset f s).button = s.button := rfl
@[simp] theorem errorReset_txbuf (f : Frame) : (errorReset f s).txbuf = s.txbuf := rfl
@[simp] theorem errorReset_started (f : Frame) : (errorReset f s).started = s.started := rfl
@[simp] theorem errorReset_linkRx (f : Frame) : (errorReset f s).linkRx = s.linkRx := rfl
@[simp] theorem errorReset_txBusy (f : Frame) : (errorReset f s).txBusy = s.txBusy := rfl
@[simp] theorem errorReset_faulted (f : Frame) : (errorReset f s).faulted = s.faulted := rfl
@[simp] theorem errorReset_inbox (f : Frame) : (errorReset f s).inbox = s.inbox := rfl
@[simp] theorem errorReset_actions (f : Frame) : (errorReset f s).actions = s.actions := rfl
@[simp] theorem errorReset_result (f : Frame) : (errorReset f s).result = s.result := rfl

@[simp] theorem unrecognised_cfg (f : Frame) : (unrecognised f s).cfg = s.cfg := rfl
@[simp] theorem unrecognised_cursor (f : Frame) : (unrecognised f s).cursor = s.cursor := rfl
@[simp] theorem unrecognised_rxTicks (f : Frame) : (unrecognised f s).rxTicks = s.rxTicks := rfl
@[simp] theorem unrecognised_rxbuf (f : Frame) : (unrecognised f s).rxbuf = s.rxbuf := rfl
@[simp] theorem unrecognised_led (f : Frame) : (unrecognised f s).led = s.led := rfl
@[simp] theorem unrecognised_err (f : Frame) : (unrecognised f s).err = s.cfg.errCodes.incorrectCommand := rfl
@[simp] theorem unrecognised_temp (f : Frame) : (unrecognised f s).temp = s.temp := rfl
@[simp] theorem unrecognised_volt (f : Frame) : (unrecognised f s).volt = s.volt := rfl
@[simp] theorem unrecognised_button (f : Frame) : (unrecognised f s).button = s.button := rfl
@[simp] theorem unrecognised_txbuf (f : Frame) : (unrecognised f s).txbuf = s.txbuf := rfl
@[simp] theorem unrecognised_started (f : Frame) : (unrecognised f s).started = s.started := rfl
@[simp] theorem unrecognised_linkRx (f : Frame) : (unrecognised f s).linkRx = s.linkRx := rfl
@[simp] theorem unrecognised_txBusy (f : Frame) : (unrecognised f s).txBusy = s.txBusy := rfl
@[simp] theorem unrecognised_faulted (f : Frame) : (unrecognised f s).faulted = s.faulted := rfl
@[simp] theorem unrecognised_inbox (f : Frame) : (unrecognised f s).inbox = s.inbox := rfl
@[simp] theorem unrecognised_actions (f : Frame) : (unrecognised f s).actions = s.actions := rfl
@[simp] theorem unrecognised_result (f : Frame) : (unrecognised f s).result = s.result := rfl

@[simp] theorem startReceive_cfg : (startReceive s).cfg = s.cfg := rfl
@[simp] theorem startReceive_cursor : (startReceive s).cursor = .waitFirst := rfl
@[simp] theorem startReceive_rxTicks : (startReceive s).rxTicks = 0 := rfl
@[simp] theorem startReceive_rxbuf : (startReceive s).rxbuf = memWrite s.rxbuf 0 #v[0x00#8, 0x00#8, 0x00#8] := rfl
@[simp] theorem startReceive_led : (startReceive s).led = s.led := rfl
@[simp] theorem startReceive_err : (startReceive s).err = s.err := rfl
@[simp] theorem startReceive_temp : (startReceive s).temp = s.temp := rfl
@[simp] theorem startReceive_volt : (startReceive s).volt = s.volt := rfl
@[simp] theorem startReceive_button : (startReceive s).button = s.button := rfl
@[simp] theorem startReceive_txbuf : (startReceive s).txbuf = s.txbuf := rfl
@[simp] theorem startReceive_started : (startReceive s).started = true := rfl
@[simp] theorem startReceive_linkRx : (startReceive s).linkRx = .armed 0 1 := rfl
@[simp] theorem startReceive_txBusy : (startReceive s).txBusy = s.txBusy := rfl
@[simp] theorem startReceive_faulted : (startReceive s).faulted = s.faulted := rfl
@[simp] theorem startReceive_inbox : (startReceive s).inbox = s.inbox := rfl
@[simp] theorem startReceive_actions : (startReceive s).actions = s.actions ++ [.armRx 0 1] := rfl
@[simp] theorem startReceive_result : (startReceive s).result = s.result := rfl

@[simp] theorem firstByte_cfg (d0 : Byte) : (firstByte d0 s).cfg = s.cfg := rfl
@[simp] theorem firstByte_cursor (d0 : Byte) : (firstByte d0 s).cursor = .inProgress := rfl
@[simp] theorem firstByte_rxTicks (d0 : Byte) : (firstByte d0 s).rxTicks = s.rxTicks := rfl
@[simp] theorem firstByte_rxbuf (d0 : Byte) : (firstByte d0 s).rxbuf = memWrite s.rxbuf 0 #v[d0] := rfl
@[simp] theorem firstByte_led (d0 : Byte) : (firstByte d0 s).led = s.led := rfl
@[simp] theorem firstByte_err (d0 : Byte) : (firstByte d0 s).err = s.err := rfl
@[simp] theorem firstByte_temp (d0 : Byte) : (firstByte d0 s).temp = s.temp := rfl
@[simp] theorem firstByte_volt (d0 : Byte) : (firstByte d0 s).volt = s.volt := rfl
@[simp] theorem firstByte_button (d0 : Byte) : (firstByte d0 s).button = s.button := rfl
@[simp] theorem firstByte_txbuf (d0 : Byte) : (firstByte d0 s).txbuf = s.txbuf := rfl
@[simp] theorem firstByte_started (d0 : Byte) : (firstByte d0 s).started = s.started := rfl
@[simp] theorem firstByte_linkRx (d0 : Byte) : (firstByte d0 s).linkRx = .armed 1 2 := rfl
@[simp] theorem firstByte_txBusy (d0 : Byte) : (firstByte d0 s).txBusy = s.txBusy := rfl
@[simp] theorem firstByte_faulted (d0 : Byte) : (firstByte d0 s).faulted = s.faulted := rfl
@[simp] theorem firstByte_inbox (d0 : Byte) : (firstByte d0 s).inbox = s.inbox := rfl
@[simp] theorem firstByte_actions (d0 : Byte) : (firstByte d0 s).actions = s.actions ++ [.armRx 1 2] := rfl
@[simp] theorem firstByte_result (d0 : Byte) : (firstByte d0 s).result = s.result := rfl

@[simp] theorem takeRemainder_cfg (d1 d2 : Byte) : (takeRemainder d1 d2 s).cfg = s.cfg := rfl
@[simp] theorem takeRemainder_cursor (d1 d2 : Byte) : (takeRemainder d1 d2 s).cursor = s.cursor := rfl
@[simp] theorem takeRemainder_rxTicks (d1 d2 : Byte) : (takeRemainder d1 d2 s).rxTicks = s.rxTicks := rfl
@[simp] theorem takeRemainder_rxbuf (d1 d2 : Byte) : (takeRemainder d1 d2 s).rxbuf = memWrite s.rxbuf 1 #v[d1, d2] := rfl
@[simp] theorem takeRemainder_led (d1 d2 : Byte) : (takeRemainder d1 d2 s).led = s.led := rfl
@[simp] theorem takeRemainder_err (d1 d2 : Byte) : (takeRemainder d1 d2 s).err = s.err := rfl
@[simp] theorem takeRemainder_temp (d1 d2 : Byte) : (takeRemainder d1 d2 s).temp = s.temp := rfl
@[simp] theorem takeRemainder_volt (d1 d2 : Byte) : (takeRemainder d1 d2 s).volt = s.volt := rfl
@[simp] theorem takeRemainder_button (d1 d2 : Byte) : (takeRemainder d1 d2 s).button = s.button := rfl
@[simp] theorem takeRemainder_txbuf (d1 d2 : Byte) : (takeRemainder d1 d2 s).txbuf = s.txbuf := rfl
@[simp] theorem takeRemainder_started (d1 d2 : Byte) : (takeRemainder d1 d2 s).started = s.started := rfl
@[simp] theorem takeRemainder_linkRx (d1 d2 : Byte) : (takeRemainder d1 d2 s).linkRx = .none := rfl
@[simp] theorem takeRemainder_txBusy (d1 d2 : Byte) : (takeRemainder d1 d2 s).txBusy = s.txBusy := rfl
@[simp] theorem takeRemainder_faulted (d1 d2 : Byte) : (takeRemainder d1 d2 s).faulted = s.faulted := rfl
@[simp] theorem takeRemainder_inbox (d1 d2 : Byte) : (takeRemainder d1 d2 s).inbox = s.inbox := rfl
@[simp] theorem takeRemainder_actions (d1 d2 : Byte) : (takeRemainder d1 d2 s).actions = s.actions := rfl
@[simp] theorem takeRemainder_result (d1 d2 : Byte) : (takeRemainder d1 d2 s).result = s.result := rfl

@[simp] theorem abortReceive_cfg : (abortReceive s).cfg = s.cfg := rfl
@[simp] theorem abortReceive_cursor : (abortReceive s).cursor = .waitFirst := rfl
@[simp] theorem abortReceive_rxTicks : (abortReceive s).rxTicks = 0 := rfl
@[simp] theorem abortReceive_rxbuf : (abortReceive s).rxbuf = memWrite s.rxbuf 0 #v[0x00#8, 0x00#8, 0x00#8] := rfl
@[simp] theorem abortReceive_led : (abortReceive s).led = s.led := rfl
@[simp] theorem abortReceive_err : (abortReceive s).err = s.err := rfl
@[simp] theorem abortReceive_temp : (abortReceive s).temp = s.temp := rfl
@[simp] theorem abortReceive_volt : (abortReceive s).volt = s.volt := rfl
@[simp] theorem abortReceive_button : (abortReceive s).button = s.button := rfl
@[simp] theorem abortReceive_txbuf : (abortReceive s).txbuf = s.txbuf := rfl
@[simp] theorem abortReceive_started : (abortReceive s).started = true := rfl
@[simp] theorem abortReceive_linkRx : (abortReceive s).linkRx = .armed 0 1 := rfl
@[simp] theorem abortReceive_txBusy : (abortReceive s).txBusy = s.txBusy := rfl
@[simp] theorem abortReceive_faulted : (abortReceive s).faulted = s.faulted := rfl
@[simp] theorem abortReceive_inbox : (abortReceive s).inbox = s.inbox := rfl
@[simp] theorem abortReceive_actions : (abortReceive s).actions = (s.actions ++ [.abortRx]) ++ [.armRx 0 1] := rfl
@[simp] theorem abortReceive_result : (abortReceive s).result = s.result := rfl

@[simp] theorem beginEvent_cfg (rest : List Event) : (beginEvent rest s).cfg = s.cfg := rfl
@[simp] theorem beginEvent_cursor (rest : List Event) : (beginEvent rest s).cursor = s.cursor := rfl
@[simp] theorem beginEvent_rxTicks (rest : List Event) : (beginEvent rest s).rxTicks = s.rxTicks := rfl
@[simp] theorem beginEvent_rxbuf (rest : List Event) : (beginEvent rest s).rxbuf = s.rxbuf := rfl
@[simp] theorem beginEvent_led (rest : List Event) : (beginEvent rest s).led = s.led := rfl
@[simp] theorem beginEvent_err (rest : List Event) : (beginEvent rest s).err = s.err := rfl
@[simp] theorem beginEvent_temp (rest : List Event) : (beginEvent rest s).temp = s.temp := rfl
@[simp] theorem beginEvent_volt (rest : List Event) : (beginEvent rest s).volt = s.volt := rfl
@[simp] theorem beginEvent_button (rest : List Event) : (beginEvent rest s).button = s.button := rfl
@[simp] theorem beginEvent_txbuf (rest : List Event) : (beginEvent rest s).txbuf = s.txbuf := rfl
@[simp] theorem beginEvent_started (rest : List Event) : (beginEvent rest s).started = s.started := rfl
@[simp] theorem beginEvent_linkRx (rest : List Event) : (beginEvent rest s).linkRx = s.linkRx := rfl
@[simp] theorem beginEvent_txBusy (rest : List Event) : (beginEvent rest s).txBusy = s.txBusy := rfl
@[simp] theorem beginEvent_faulted (rest : List Event) : (beginEvent rest s).faulted = s.faulted := rfl
@[simp] theorem beginEvent_inbox (rest : List Event) : (beginEvent rest s).inbox = rest := rfl
@[simp] theorem beginEvent_actions (rest : List Event) : (beginEvent rest s).actions = [] := rfl
@[simp] theorem beginEvent_result (rest : List Event) : (beginEvent rest s).result = none := rfl

end Sys2Proof.Machine
end

