-- ==== Sys2Proof/Laws/Ops.lean ====
section
/-! SUPPORT. The shared operations, each described once: buffers, the output latch, dispatch, the response builder and the
receiver. -/

namespace Sys2Proof.Machine

/-! ## Buffers -/

/-- A read after a write gives the bytes written inside the range, and the old bytes outside it. -/
theorem memWrite_getElem {size n : Nat} (b : Vector Byte size) (off : Nat) (v : Vector Byte n) (h : off + n ≤ size)
    (i : Nat) (hi : i < size) :
    (memWrite b off v h)[i] = if h : off ≤ i ∧ i < off + n then v[i - off] else b[i] := by
  simp [memWrite]

theorem memWrite_outside {size n : Nat} (b : Vector Byte size) (off : Nat) (v : Vector Byte n) (h : off + n ≤ size)
    (i : Nat) (hi : i < size) (ho : i < off ∨ off + n ≤ i) : (memWrite b off v h)[i] = b[i] := by
  rw [memWrite_getElem, dif_neg]
  omega

theorem memRead_getElem {size : Nat} (b : Vector Byte size) (off n : Nat) (h : off + n ≤ size) (i : Nat) (hi : i < n) :
    (memRead b off n h)[i] = b[off + i] := by
  simp [memRead]

/-- Reading back what was written. -/
theorem memRead_memWrite {size n : Nat} (b : Vector Byte size) (off : Nat) (v : Vector Byte n) (h : off + n ≤ size) :
    memRead (memWrite b off v h) off n h = v := by
  ext i hi
  simp [memRead, memWrite]

@[simp] theorem memRead_all {size : Nat} (b : Vector Byte size) (h : 0 + size ≤ size) : memRead b 0 size h = b := by
  ext i hi
  simp [memRead]

@[simp] theorem memWrite_all {size : Nat} (b v : Vector Byte size) (h : 0 + size ≤ size) : memWrite b 0 v h = v := by
  ext i hi
  simp [memWrite]

@[simp] theorem memWrite_firstByte (b : Vector Byte 3) (d0 : Byte) (h : 0 + 1 ≤ 3) :
    memWrite b 0 #v[d0] h = #v[d0, b[1], b[2]] := by
  ext i hi
  obtain rfl | rfl | rfl : i = 0 ∨ i = 1 ∨ i = 2 := by omega
  all_goals simp [memWrite]

@[simp] theorem memWrite_remainder (b : Vector Byte 3) (d1 d2 : Byte) (h : 1 + 2 ≤ 3) :
    memWrite b 1 #v[d1, d2] h = #v[b[0], d1, d2] := by
  ext i hi
  obtain rfl | rfl | rfl : i = 0 ∨ i = 1 ∨ i = 2 := by omega
  all_goals simp [memWrite]

/-! ## Model faults -/

/-- An event that needs STARTED either acts or raises EVENT_BEFORE_START. -/
theorem afterStart_cases (s : State) (act : State → Outcome) :
    (s.started = true ∧ afterStart s act = act s) ∨
      (s.started = false ∧ afterStart s act = .next (markFault .eventBeforeStart s)) := by
  cases h : s.started <;> simp [afterStart, h, raiseModelFault]

/-! ## The output latch -/

theorem writeBit_getLsbD (v : BitVec 4) (i j : Nat) (b : Bool) (hj : j < 4) :
    (writeBit v i b).getLsbD j = if j = i then b else v.getLsbD j := by
  cases b
  · by_cases h : j = i
    · subst h
      simp [writeBit, hj]
    · by_cases h2 : j < i
      · simp [writeBit, h, h2, hj]
      · have h3 : j - i ≠ 0 := by omega
        simp [writeBit, h, h2, hj, h3]
  · by_cases h : j = i
    · subst h
      simp [writeBit, hj]
    · by_cases h2 : j < i
      · simp [writeBit, h, h2]
      · have h3 : j - i ≠ 0 := by omega
        simp [writeBit, h, hj, h3]

theorem writeBit_getElem (v : BitVec 4) (i j : Nat) (b : Bool) (hj : j < 4) :
    (writeBit v i b)[j] = if j = i then b else v[j] := by
  simpa [BitVec.getLsbD_eq_getElem hj] using writeBit_getLsbD v i j b hj

/-- All four lanes of the latch after UPDATE_OUTPUTS. -/
theorem latch_loop (v : BitVec 4) (f : Frame) :
    writeBit (writeBit (writeBit (writeBit v 0 (ledReq f .line1)) 1 (ledReq f .line2)) 2 (ledReq f .line3)) 3
      (ledReq f .line4) = ledsOf f := by
  apply BitVec.eq_of_getLsbD_eq
  intro j hj
  obtain rfl | rfl | rfl | rfl : j = 0 ∨ j = 1 ∨ j = 2 ∨ j = 3 := by omega
  all_goals simp [writeBit_getElem, ledReq, ledsOf, Line.bit]

/-- The SetLine actions of a frame, in order 1 to 4. -/
abbrev setLines (f : Frame) : List Action := Line.all.map fun l => .setLine l (ledReq f l)

/-- Everything UPDATE_OUTPUTS does. -/
theorem updateOutputs_eq (f : Frame) (s : State) :
    updateOutputs f s = { s with led := ledsOf f, actions := s.actions ++ setLines f } := by
  simp only [updateOutputs, Line.all, List.foldl, driveLine, emit, setLines, List.map, Line.bit, latch_loop,
    List.append_assoc, List.cons_append, List.nil_append]

/-! ## Dispatch -/

/-- The output latch after a frame with these bits has been dispatched. -/
def ledAfter (f : Frame) (led : BitVec 4) : BitVec 4 := if cmdOf f = cmdUpdateOutputs then ledsOf f else led

/-- The error latch after a frame has been dispatched. -/
def errAfter (c : ErrCodes) (f : Frame) (err : Byte) : Byte :=
  if cmdOf f = cmdSendData ∨ cmdOf f = cmdUpdateOutputs then err
  else if cmdOf f = cmdErrorReset then c.noError
  else c.incorrectCommand

/-- The actions of a frame's dispatch. -/
def dispatchActions (f : Frame) : List Action := if cmdOf f = cmdUpdateOutputs then setLines f else []

/-- Everything Dispatch does: LED, ERR and SetLine, and nothing else (42_dispatcher.md rules R110, R117). -/
theorem dispatch_eq (f : Frame) (s : State) :
    dispatch f s =
      { s with
        led := ledAfter f s.led
        err := errAfter s.cfg.errCodes f s.err
        actions := s.actions ++ dispatchActions f } := by
  by_cases h0 : cmdOf f = cmdSendData
  · have h1 : ¬ cmdSendData = cmdUpdateOutputs := by decide
    simp [dispatch, sendData, ledAfter, errAfter, dispatchActions, h0, h1]
  by_cases h1 : cmdOf f = cmdUpdateOutputs
  · have h2 : ¬ cmdUpdateOutputs = cmdSendData := by decide
    simp [dispatch, ledAfter, errAfter, dispatchActions, h1, h2, updateOutputs_eq]
  by_cases h2 : cmdOf f = cmdErrorReset
  · have h3 : ¬ cmdErrorReset = cmdSendData := by decide
    have h4 : ¬ cmdErrorReset = cmdUpdateOutputs := by decide
    simp [dispatch, ledAfter, errAfter, dispatchActions, errorReset, h2, h3, h4]
  · simp [dispatch, ledAfter, errAfter, dispatchActions, unrecognised, h0, h1, h2]

/-! ## The response builder -/

/-- The response a state would send. -/
abbrev State.response (s : State) : Response := packResponse s.temp s.volt s.led s.button s.err

/-- BuildAndSend writes TXBUF and TX_BUSY and emits one Tx, or raises TX_OVERLAP. -/
theorem buildAndSend_cases (s : State) :
    (s.txBusy = true ∧ buildAndSend s = .error .txOverlap) ∨
      (s.txBusy = false ∧ buildAndSend s =
        .ok { s with txbuf := s.response, txBusy := true, actions := s.actions ++ [.tx s.response] }) := by
  cases h : s.txBusy <;> simp [buildAndSend, h, emit]

/-! ## The receiver -/

theorem startReceive_eq (s : State) :
    startReceive s =
      { s with
        cursor := .waitFirst
        rxTicks := 0
        rxbuf := #v[0x00#8, 0x00#8, 0x00#8]
        linkRx := .armed 0 1
        started := true
        actions := s.actions ++ [.armRx 0 1] } := by
  simp [startReceive, emit]

theorem firstByte_eq (d0 : Byte) (s : State) :
    firstByte d0 s =
      { s with
        cursor := .inProgress
        rxbuf := #v[d0, s.rxbuf[1], s.rxbuf[2]]
        linkRx := .armed 1 2
        actions := s.actions ++ [.armRx 1 2] } := by
  simp [firstByte, emit]

theorem takeRemainder_eq (d1 d2 : Byte) (s : State) :
    takeRemainder d1 d2 s = { s with rxbuf := #v[s.rxbuf[0], d1, d2], linkRx := .none } := by
  simp [takeRemainder]

theorem abortReceive_eq (s : State) :
    abortReceive s =
      { s with
        cursor := .waitFirst
        rxTicks := 0
        rxbuf := #v[0x00#8, 0x00#8, 0x00#8]
        linkRx := .armed 0 1
        started := true
        actions := s.actions ++ [.abortRx, .armRx 0 1] } := by
  simp [abortReceive, startReceive_eq, emit]

/-- R99: what the precondition of RX_DONE says. -/
theorem rxDonePrecondition_cases (s : State) (d : List Byte) :
    (s.started = false ∧ rxDonePrecondition s d = some .eventBeforeStart) ∨
      (s.started = true ∧ (∀ off, s.linkRx ≠ .armed off d.length) ∧ rxDonePrecondition s d = some .rxUnarmed) ∨
      (s.started = true ∧ (∃ off, s.linkRx = .armed off d.length) ∧ rxDonePrecondition s d = none) := by
  cases h : s.started
  · simp [rxDonePrecondition, h]
  · cases h2 : s.linkRx with
    | none => simp [rxDonePrecondition, h, h2]
    | armed off len =>
      by_cases h3 : d.length = len
      · simp [rxDonePrecondition, h, h2, h3]
      · simp [rxDonePrecondition, h, h2, h3, Ne.symm h3]

/-- The state after a valid frame `f` has been dispatched and answered and the receive re-armed. -/
def answered (f : Frame) (s : State) : State :=
  { s with
    cursor := .waitFirst
    rxTicks := 0
    rxbuf := #v[0x00#8, 0x00#8, 0x00#8]
    led := ledAfter f s.led
    err := errAfter s.cfg.errCodes f s.err
    txbuf := packResponse s.temp s.volt (ledAfter f s.led) s.button (errAfter s.cfg.errCodes f s.err)
    linkRx := .armed 0 1
    started := true
    txBusy := true
    actions := s.actions ++ dispatchActions f ++
      [.tx (packResponse s.temp s.volt (ledAfter f s.led) s.button (errAfter s.cfg.errCodes f s.err)), .armRx 0 1] }

/-- The three ends of the remainder phase: discarded, TX_OVERLAP, answered. -/
theorem remainder_cases (d1 d2 : Byte) (s : State) :
    (validFrame s.cfg #v[s.rxbuf[0], d1, d2] = false ∧ remainder d1 d2 s = .next (startReceive s)) ∨
      (validFrame s.cfg #v[s.rxbuf[0], d1, d2] = true ∧ s.txBusy = true ∧
        remainder d1 d2 s = .next (markFault .txOverlap s)) ∨
      (validFrame s.cfg #v[s.rxbuf[0], d1, d2] = true ∧ s.txBusy = false ∧
        remainder d1 d2 s = .next (answered #v[s.rxbuf[0], d1, d2] s)) := by
  cases hv : validFrame s.cfg #v[s.rxbuf[0], d1, d2]
  · left
    simp [remainder, takeRemainder_eq, hv, startReceive_eq]
  · right
    cases hb : s.txBusy
    · right
      simp [remainder, takeRemainder_eq, hv, dispatch_eq, buildAndSend, hb, startReceive_eq, answered, emit]
    · left
      simp [remainder, takeRemainder_eq, hv, dispatch_eq, buildAndSend, hb, raiseModelFault]

/-- A frame is its three bytes. -/
theorem frame_bytes (f : Frame) : #v[f[0], f[1], f[2]] = f := by
  apply Vector.ext
  intro i hi
  obtain rfl | rfl | rfl : i = 0 ∨ i = 1 ∨ i = 2 := by omega
  all_goals rfl

/-- `remainder_cases` for a frame whose first byte is in RXBUF. -/
theorem remainder_frame_cases (f : Frame) (s : State) (h0 : s.rxbuf[0] = f[0]) :
    (validFrame s.cfg f = false ∧ remainder f[1] f[2] s = .next (startReceive s)) ∨
      (validFrame s.cfg f = true ∧ s.txBusy = true ∧ remainder f[1] f[2] s = .next (markFault .txOverlap s)) ∨
      (validFrame s.cfg f = true ∧ s.txBusy = false ∧ remainder f[1] f[2] s = .next (answered f s)) := by
  simpa only [h0, frame_bytes] using remainder_cases f[1] f[2] s

/-- With its two bytes armed, the remainder row is the remainder phase. -/
theorem execRxDoneRemainder_eq (s : State) (d1 d2 : Byte) (off : Nat) (hs : s.started = true)
    (ha : s.linkRx = .armed off 2) : execRxDoneRemainder [d1, d2] s = remainder d1 d2 s := by
  simp [execRxDoneRemainder, rxDonePrecondition, hs, ha]

/-- A valid frame is one that Classify does not discard (30_encoding.md rule R65). -/
theorem classify_of_valid {c : Config} {f : Frame} (h : validFrame c f = true) :
    classify c f =
      if cmdOf f = cmdSendData then .validSendData
      else if cmdOf f = cmdUpdateOutputs then .validUpdateOutputs
      else if cmdOf f = cmdErrorReset then .validErrorReset
      else .validUnrecognised := by
  simp only [validFrame, Bool.and_eq_true, beq_iff_eq] at h
  simp [classify, h.1, h.2]

theorem classify_of_invalid {c : Config} {f : Frame} (h : validFrame c f = false) :
    classify c f = .discardAddress ∨ classify c f = .discardCrc := by
  by_cases ha : addrOf f = c.devAddr
  · by_cases hc : crc8 [f[0], f[1]] = crcbOf f
    · simp [validFrame, ha, hc] at h
    · simp [classify, ha, hc]
  · simp [classify, ha]

/-- The three command values are different. -/
@[simp] theorem cmdUpdateOutputs_ne_sendData : cmdUpdateOutputs ≠ cmdSendData := by decide
@[simp] theorem cmdErrorReset_ne_sendData : cmdErrorReset ≠ cmdSendData := by decide
@[simp] theorem cmdErrorReset_ne_updateOutputs : cmdErrorReset ≠ cmdUpdateOutputs := by decide

theorem ledReq_of_ledsOf {f g : Frame} (h : ledsOf f = ledsOf g) (l : Line) : ledReq f l = ledReq g l := by
  have hb := congrArg (fun v : BitVec 4 => v.getLsbD l.bit) h
  simp only [ledsOf, BitVec.getLsbD_extractLsb'] at hb
  cases l <;> simpa [ledReq, Line.bit] using hb

end Sys2Proof.Machine
end

