-- ==== Sys2Proof/Laws/Crc.lean ====
section
/-! SUPPORT. The CRC engines are linear over GF(2) (40_crc.md rule R85): the laws of one pass and of one byte. -/

namespace Sys2Proof.Machine

variable {w : Nat}

/-- One pass of the inner loop is linear. -/
theorem crcShift_xor (poly a b : BitVec w) : crcShift poly (a ^^^ b) = crcShift poly a ^^^ crcShift poly b := by
  unfold crcShift
  rw [BitVec.msb_xor, BitVec.shiftLeft_xor_distrib]
  cases a.msb <;> cases b.msb <;> simp only [Bool.xor_false, Bool.xor_true, Bool.not_false, Bool.not_true, if_true,
    Bool.false_eq_true, if_false]
  · rw [BitVec.xor_assoc]
  · rw [BitVec.xor_assoc, BitVec.xor_assoc, BitVec.xor_comm (b <<< 1)]
  · rw [BitVec.xor_assoc, ← BitVec.xor_assoc poly, BitVec.xor_comm poly, BitVec.xor_assoc, BitVec.xor_self,
      BitVec.xor_zero]

theorem repeat_crcShift_xor (poly a b : BitVec w) (n : Nat) :
    Nat.repeat (crcShift poly) n (a ^^^ b) = Nat.repeat (crcShift poly) n a ^^^ Nat.repeat (crcShift poly) n b := by
  induction n with
  | zero => rfl
  | succ n ih => simp only [Nat.repeat, ih, crcShift_xor]

/-- One byte entering the register is linear in the register and the byte together. -/
theorem crcByte_xor (poly c c' : BitVec w) (x x' : Byte) :
    crcByte poly (c ^^^ c') (x ^^^ x') = crcByte poly c x ^^^ crcByte poly c' x' := by
  unfold crcByte
  rw [← repeat_crcShift_xor, BitVec.setWidth_xor, BitVec.shiftLeft_xor_distrib]
  congr 1
  rw [BitVec.xor_assoc, BitVec.xor_assoc, ← BitVec.xor_assoc c', BitVec.xor_comm c',
    BitVec.xor_assoc (BitVec.setWidth w x <<< (w - 8))]

@[simp] theorem crc_nil (poly init : BitVec w) : crc poly init [] = init := rfl

@[simp] theorem crc_cons (poly init : BitVec w) (x : Byte) (xs : List Byte) :
    crc poly init (x :: xs) = crc poly (crcByte poly init x) xs := rfl

theorem crc8_pair (x y : Byte) : crc8 [x, y] = crcByte 0x31#8 (crcByte 0x31#8 0xFF#8 x) y := rfl

end Sys2Proof.Machine
end

