-- ==== Sys2Proof/Laws/Encoding.lean ====
section
/-! SUPPORT. The fields of a frame built from its parts, and the row a frame selects. -/

namespace Sys2Proof

open Machine

theorem joinNibbles_high : ∀ a b : Nibble, (joinNibbles a b).extractLsb' 4 4 = a := by decide

theorem joinNibbles_low : ∀ a b : Nibble, (joinNibbles a b).extractLsb' 0 4 = b := by decide

theorem joinNibbles_parts (x : Byte) : joinNibbles (x.extractLsb' 4 4) (x.extractLsb' 0 4) = x := by
  revert x
  decide

@[simp] theorem cmdOf_frameOf (c : Nibble) (r : Request) : cmdOf (frameOf c r) = c := joinNibbles_high c r.addr
@[simp] theorem addrOf_frameOf (c : Nibble) (r : Request) : addrOf (frameOf c r) = r.addr := joinNibbles_low c r.addr
@[simp] theorem rsvdOf_frameOf (c : Nibble) (r : Request) : rsvdOf (frameOf c r) = r.reserved :=
  joinNibbles_high r.reserved r.leds
@[simp] theorem ledsOf_frameOf (c : Nibble) (r : Request) : ledsOf (frameOf c r) = r.leds := joinNibbles_low r.reserved r.leds
@[simp] theorem crcbOf_frameOf (c : Nibble) (r : Request) : crcbOf (frameOf c r) = r.crc := rfl
@[simp] theorem requestOf_frameOf (c : Nibble) (r : Request) : requestOf (frameOf c r) = r := by
  simp [requestOf]

/-- A frame is its command value and its other fields. -/
@[simp] theorem frameOf_parts (f : Frame) : frameOf (cmdOf f) (requestOf f) = f := by
  apply Vector.ext
  intro i hi
  obtain rfl | rfl | rfl : i = 0 ∨ i = 1 ∨ i = 2 := by omega
  · exact joinNibbles_parts f[0]
  · exact joinNibbles_parts f[1]
  · rfl

/-- The row of a frame is the row of its command value. -/
theorem decodeFrame_frameOf (c : Nibble) (r : Request) :
    decodeFrame (frameOf c r) = (commandTable.find? fun row => row.code == c).map fun row => row.build r := by
  simp [decodeFrame]

/-- Every command value has a row (R61), and the row's instruction encodes to a frame with that value. -/
theorem commandRow_of_value (c : Nibble) (r : Request) :
    ∃ i, (commandTable.find? fun row => row.code == c).map (fun row => row.build r) = some i ∧
      encode i = .request24 (frameOf c r) := by
  have hc : c = 0x0#4 ∨ c = 0x1#4 ∨ c = 0x2#4 ∨ c = 0x3#4 ∨ c = 0x4#4 ∨ c = 0x5#4 ∨ c = 0x6#4 ∨ c = 0x7#4 ∨ c = 0x8#4 ∨ c = 0x9#4 ∨
      c = 0xA#4 ∨ c = 0xB#4 ∨ c = 0xC#4 ∨ c = 0xD#4 ∨ c = 0xE#4 ∨ c = 0xF#4 := by
    revert c
    decide
  rcases hc with rfl | rfl | rfl | rfl | rfl | rfl | rfl | rfl | rfl | rfl | rfl | rfl | rfl | rfl | rfl | rfl
  all_goals exact ⟨_, rfl, rfl⟩

/-- R61: every request frame selects a row. -/
theorem decodeFrame_isSome (f : Frame) : ∃ i, decodeFrame f = some i ∧ encode i = .request24 f := by
  obtain ⟨i, h1, h2⟩ := commandRow_of_value (cmdOf f) (requestOf f)
  refine ⟨i, h1, ?_⟩
  rw [h2, frameOf_parts]

/-- The frame an instruction encodes to decodes to the instruction. -/
theorem decodeFrame_of_encode {i : Instr} {f : Frame} (h : encode i = .request24 f) : decodeFrame f = some i := by
  cases i <;> simp only [encode, Code.request24.injEq, reduceCtorEq] at h
  all_goals
    subst h
    rw [decodeFrame_frameOf]
    rfl

/-- The bits of the word W = f2 : f1 : f0 (30_encoding.md rule R57). -/
theorem frameWord_getLsbD (f : Frame) (i : Nat) :
    (frameWord f).getLsbD i =
      if i < 8 then f[0].getLsbD i else if i < 16 then f[1].getLsbD (i - 8) else f[2].getLsbD (i - 16) := by
  have h1 : (frameWord f).getLsbD i =
      if i < 8 then f[0].getLsbD i else (f[2] ++ f[1] : BitVec (8 + 8)).getLsbD (i - 8) := BitVec.getLsbD_append
  rw [h1, BitVec.getLsbD_append]
  by_cases h : i < 8
  · simp [h]
  · simp only [h, if_false, show (i - 8 < 8) = (i < 16) by simp; omega, show i - 8 - 8 = i - 16 by omega]

/-! ## 16-bit fields and the status byte -/

/-- A 16-bit field is read back from its two bytes, low byte first (20_memory.md rule R42). -/
@[simp] theorem halfOf_bytes (v : Half) : halfOf (lowByte v) (highByte v) = v := by
  have h : (halfOf (lowByte v) (highByte v)).toNat = (highByte v).toNat <<< 8 ||| (lowByte v).toNat :=
    BitVec.toNat_append _ _
  apply BitVec.eq_of_toNat_eq
  rw [h, ← Nat.shiftLeft_add_eq_or_of_lt (lowByte v).isLt, Nat.shiftLeft_eq]
  simp only [lowByte, highByte, BitVec.extractLsb'_toNat, Nat.shiftRight_eq_div_pow]
  omega

theorem statusByte_fields : ∀ (led : BitVec 4) (button : Bool),
    (statusByte led button).extractLsb' 0 4 = led ∧ (statusByte led button).getLsbD 4 = button ∧
      (statusByte led button).extractLsb' 5 3 = 0 := by
  decide

end Sys2Proof
end

