-- ==== Sys2Proof/Laws/PerInstr.lean ====
section
/-! SUPPORT. The family RoundTrip: the encoding of each instruction decodes to the instruction. -/

namespace Sys2Proof.Laws.RoundTrip

/-- The encoding of `i` stands for `i`. -/
def Statement (i : Instr) : Prop := decodeCode (encode i) = .ok i

/-- A command row: it is enough that the row of its command value is its own. -/
theorem of_row (i : Instr) (c : Nibble) (r : Request) (h : encode i = .request24 (frameOf c r))
    (hr : (commandTable.find? fun row => row.code == c).map (fun row => row.build r) = some i) : Statement i := by
  rw [Statement, h, decodeCode, decodeFrame_frameOf, hr]

theorem sendData (r : Request) : Statement (.sendData r) := of_row _ 0x0#4 r rfl rfl
theorem updateOutputs (r : Request) : Statement (.updateOutputs r) := of_row _ 0x1#4 r rfl rfl
theorem errorReset (r : Request) : Statement (.errorReset r) := of_row _ 0x2#4 r rfl rfl
theorem cmdUnrecognised3 (r : Request) : Statement (.cmdUnrecognised3 r) := of_row _ 0x3#4 r rfl rfl
theorem cmdUnrecognised4 (r : Request) : Statement (.cmdUnrecognised4 r) := of_row _ 0x4#4 r rfl rfl
theorem cmdUnrecognised5 (r : Request) : Statement (.cmdUnrecognised5 r) := of_row _ 0x5#4 r rfl rfl
theorem cmdUnrecognised6 (r : Request) : Statement (.cmdUnrecognised6 r) := of_row _ 0x6#4 r rfl rfl
theorem cmdUnrecognised7 (r : Request) : Statement (.cmdUnrecognised7 r) := of_row _ 0x7#4 r rfl rfl
theorem cmdUnrecognised8 (r : Request) : Statement (.cmdUnrecognised8 r) := of_row _ 0x8#4 r rfl rfl
theorem cmdUnrecognised9 (r : Request) : Statement (.cmdUnrecognised9 r) := of_row _ 0x9#4 r rfl rfl
theorem cmdUnrecognisedA (r : Request) : Statement (.cmdUnrecognisedA r) := of_row _ 0xA#4 r rfl rfl
theorem cmdUnrecognisedB (r : Request) : Statement (.cmdUnrecognisedB r) := of_row _ 0xB#4 r rfl rfl
theorem cmdUnrecognisedC (r : Request) : Statement (.cmdUnrecognisedC r) := of_row _ 0xC#4 r rfl rfl
theorem cmdUnrecognisedD (r : Request) : Statement (.cmdUnrecognisedD r) := of_row _ 0xD#4 r rfl rfl
theorem cmdUnrecognisedE (r : Request) : Statement (.cmdUnrecognisedE r) := of_row _ 0xE#4 r rfl rfl
theorem cmdUnrecognisedF (r : Request) : Statement (.cmdUnrecognisedF r) := of_row _ 0xF#4 r rfl rfl
theorem start : Statement .start := rfl
theorem rxDoneFirst (d : List Byte) : Statement (.rxDoneFirst d) := rfl
theorem rxDoneRemainder (d : List Byte) : Statement (.rxDoneRemainder d) := rfl
theorem tickWait : Statement .tickWait := rfl
theorem tickInProgress : Statement .tickInProgress := rfl
theorem faultRecognised (k : TransportFault) : Statement (.faultRecognised k) := rfl
theorem faultOther (x : Nat) : Statement (.faultOther x) := rfl
theorem setTemp (v : Half) : Statement (.setTemp v) := rfl
theorem setVolt (v : Half) : Statement (.setVolt v) := rfl
theorem setButton (b : Bool) : Statement (.setButton b) := rfl
theorem txDone : Statement .txDone := rfl
theorem crc8 (data : List Byte) : Statement (.crc8 data) := rfl
theorem crc16 (data : List Byte) : Statement (.crc16 data) := rfl
theorem buildAndSend : Statement .buildAndSend := rfl

end Sys2Proof.Laws.RoundTrip
end

