-- ==== Sys2Proof/Laws/Steps.lean ====
section
/-! SUPPORT. Everything a step can do, said once: the transition relation `Reaction` has one constructor for each end an event
can come to, and `deliver_reaction` says that an event's delivery is one of them. -/

namespace Sys2Proof.Machine

/-- The events that need STARTED (10_state.md rule R32). -/
def needsStart : Event → Bool
  | .start => false
  | .rxDone _ => true
  | .tick => true
  | .fault _ => true
  | .setTemp _ => false
  | .setVolt _ => false
  | .setButton _ => false
  | .txDone => true

/-- The length of the delivery a phase asks for. -/
def phaseLength : Cursor → Nat
  | .waitFirst => 1
  | .inProgress => 2

/-- One event taken in state `s` and the state it leaves. -/
inductive Reaction : Event → State → State → Prop
  | start {s} : Reaction .start s (startReceive s)
  | early {e s} : needsStart e = true → s.started = false → Reaction e s (markFault .eventBeforeStart s)
  | unarmed {d s} : s.started = true → (∀ off, s.linkRx = .armed off d.length → d.length ≠ phaseLength s.cursor) →
      Reaction (.rxDone d) s (markFault .rxUnarmed s)
  | firstByte {d0 s off} : s.started = true → s.cursor = .waitFirst → s.linkRx = .armed off 1 →
      Reaction (.rxDone [d0]) s (firstByte d0 s)
  | discarded {d1 d2 s off} : s.started = true → s.cursor = .inProgress → s.linkRx = .armed off 2 →
      validFrame s.cfg #v[s.rxbuf[0], d1, d2] = false → Reaction (.rxDone [d1, d2]) s (startReceive s)
  | overlap {d1 d2 s off} : s.started = true → s.cursor = .inProgress → s.linkRx = .armed off 2 →
      validFrame s.cfg #v[s.rxbuf[0], d1, d2] = true → s.txBusy = true →
      Reaction (.rxDone [d1, d2]) s (markFault .txOverlap s)
  | answered {d1 d2 s off} : s.started = true → s.cursor = .inProgress → s.linkRx = .armed off 2 →
      validFrame s.cfg #v[s.rxbuf[0], d1, d2] = true → s.txBusy = false →
      Reaction (.rxDone [d1, d2]) s (answered #v[s.rxbuf[0], d1, d2] s)
  | tickWait {s} : s.started = true → s.cursor = .waitFirst → Reaction .tick s { s with rxTicks := 0 }
  | tickCount {s} : s.started = true → s.cursor = .inProgress → s.rxTicks + 1 < s.cfg.tRxTimeout →
      Reaction .tick s { s with rxTicks := s.rxTicks + 1 }
  | tickAbort {s} : s.started = true → s.cursor = .inProgress → s.cfg.tRxTimeout ≤ s.rxTicks + 1 →
      Reaction .tick s (abortReceive s)
  | fault {k s} : s.started = true →
      Reaction (.fault (.recognised k)) s { s with err := faultCode s.cfg.errCodes k }
  | faultOther {x s} : s.started = true → Reaction (.fault (.other x)) s s
  | setTemp {v s} : Reaction (.setTemp v) s { s with temp := v }
  | setVolt {v s} : Reaction (.setVolt v) s { s with volt := v }
  | setButton {b s} : Reaction (.setButton b) s { s with button := b }
  | txDone {s} : s.started = true → s.txBusy = true → Reaction .txDone s { s with txBusy := false }
  | txUnexpected {s} : s.started = true → s.txBusy = false → Reaction .txDone s (markFault .txDoneUnexpected s)

theorem execTickInProgress_cases (s : State) :
    (s.started = false ∧ execTickInProgress s = .next (markFault .eventBeforeStart s)) ∨
      (s.started = true ∧ s.rxTicks + 1 < s.cfg.tRxTimeout ∧
        execTickInProgress s = .next { s with rxTicks := s.rxTicks + 1 }) ∨
      (s.started = true ∧ s.cfg.tRxTimeout ≤ s.rxTicks + 1 ∧ execTickInProgress s = .next (abortReceive s)) := by
  cases h : s.started
  · simp [execTickInProgress, afterStart, h, raiseModelFault]
  · by_cases ht : s.cfg.tRxTimeout ≤ s.rxTicks + 1
    · simp [execTickInProgress, afterStart, h, timeoutReached, ht, abortReceive_eq]
    · simp [execTickInProgress, afterStart, h, timeoutReached, ht, Nat.lt_of_not_le ht]

/-- A delivery in the first-byte phase. -/
theorem deliver_rxDone_first (d : List Byte) (s : State) (hc : s.cursor = .waitFirst) :
    ∃ t, execRxDoneFirst d s = .next t ∧ Reaction (.rxDone d) s t := by
  obtain ⟨h, hp⟩ | ⟨h, hn, hp⟩ | ⟨h, ⟨off, ha⟩, hp⟩ := rxDonePrecondition_cases s d
  · exact ⟨_, by simp only [execRxDoneFirst, hp, raiseModelFault], .early rfl h⟩
  · exact ⟨_, by simp only [execRxDoneFirst, hp, raiseModelFault], .unarmed h fun off ho => absurd ho (hn off)⟩
  · match d, ha, hp with
    | [d0], ha, hp => exact ⟨_, by simp only [execRxDoneFirst, hp], .firstByte h hc ha⟩
    | [], _, hp =>
      exact ⟨_, by simp only [execRxDoneFirst, hp, raiseModelFault], .unarmed h fun _ _ => by simp [hc, phaseLength]⟩
    | _ :: _ :: _, _, hp =>
      exact ⟨_, by simp only [execRxDoneFirst, hp, raiseModelFault], .unarmed h fun _ _ => by simp [hc, phaseLength]⟩

/-- A delivery in the remainder phase. -/
theorem deliver_rxDone_remainder (d : List Byte) (s : State) (hc : s.cursor = .inProgress) :
    ∃ t, execRxDoneRemainder d s = .next t ∧ Reaction (.rxDone d) s t := by
  obtain ⟨h, hp⟩ | ⟨h, hn, hp⟩ | ⟨h, ⟨off, ha⟩, hp⟩ := rxDonePrecondition_cases s d
  · exact ⟨_, by simp only [execRxDoneRemainder, hp, raiseModelFault], .early rfl h⟩
  · exact ⟨_, by simp only [execRxDoneRemainder, hp, raiseModelFault], .unarmed h fun off ho => absurd ho (hn off)⟩
  · match d, ha, hp with
    | [d1, d2], ha, hp =>
      obtain ⟨hv, hr⟩ | ⟨hv, hb, hr⟩ | ⟨hv, hb, hr⟩ := remainder_cases d1 d2 s
      · exact ⟨_, by simp only [execRxDoneRemainder, hp, hr], .discarded h hc ha hv⟩
      · exact ⟨_, by simp only [execRxDoneRemainder, hp, hr], .overlap h hc ha hv hb⟩
      · exact ⟨_, by simp only [execRxDoneRemainder, hp, hr], .answered h hc ha hv hb⟩
    | [], _, hp =>
      exact ⟨_, by simp only [execRxDoneRemainder, hp, raiseModelFault],
        .unarmed h fun _ _ => by simp [hc, phaseLength]⟩
    | [_], _, hp =>
      exact ⟨_, by simp only [execRxDoneRemainder, hp, raiseModelFault],
        .unarmed h fun _ _ => by simp [hc, phaseLength]⟩
    | _ :: _ :: _ :: _, _, hp =>
      exact ⟨_, by simp only [execRxDoneRemainder, hp, raiseModelFault],
        .unarmed h fun _ _ => by simp [hc, phaseLength]⟩

/-- Every event has a next state in every state, and it is one `Reaction` allows (60_exceptions.md rule R145). -/
theorem deliver_reaction (e : Event) (s : State) : ∃ t, deliver e s = .next t ∧ Reaction e s t := by
  cases e with
  | start => exact ⟨_, rfl, .start⟩
  | setTemp v => exact ⟨_, rfl, .setTemp⟩
  | setVolt v => exact ⟨_, rfl, .setVolt⟩
  | setButton b => exact ⟨_, rfl, .setButton⟩
  | rxDone d =>
    cases hc : s.cursor with
    | waitFirst => simpa only [deliver, hc, decodeEvent, exec] using deliver_rxDone_first d s hc
    | inProgress => simpa only [deliver, hc, decodeEvent, exec] using deliver_rxDone_remainder d s hc
  | tick =>
    cases hc : s.cursor with
    | waitFirst =>
      simp only [deliver, hc, decodeEvent, exec]
      cases h : s.started
      · exact ⟨_, by simp only [execTickWait, afterStart, h, Bool.false_eq_true, if_false, raiseModelFault], .early rfl h⟩
      · exact ⟨_, by simp only [execTickWait, afterStart, h, if_true], .tickWait h hc⟩
    | inProgress =>
      simp only [deliver, hc, decodeEvent, exec]
      obtain ⟨h, hr⟩ | ⟨h, ht, hr⟩ | ⟨h, ht, hr⟩ := execTickInProgress_cases s
      · exact ⟨_, hr, .early rfl h⟩
      · exact ⟨_, hr, .tickCount h hc ht⟩
      · exact ⟨_, hr, .tickAbort h hc ht⟩
  | fault k =>
    cases h : s.started
    · refine ⟨_, ?_, .early rfl h⟩
      cases k <;> simp [deliver, decodeEvent, exec, execFaultRecognised, execFaultOther, afterStart, h, raiseModelFault]
    · cases k with
      | recognised k => exact ⟨_, by simp [deliver, decodeEvent, exec, execFaultRecognised, afterStart, h], .fault h⟩
      | other x => exact ⟨_, by simp [deliver, decodeEvent, exec, execFaultOther, afterStart, h], .faultOther h⟩
  | txDone =>
    cases h : s.started
    · exact ⟨_, by simp [deliver, decodeEvent, exec, execTxDone, afterStart, h, raiseModelFault], .early rfl h⟩
    · cases hb : s.txBusy
      · exact ⟨_, by simp [deliver, decodeEvent, exec, execTxDone, afterStart, h, hb, raiseModelFault],
          .txUnexpected h hb⟩
      · exact ⟨_, by simp [deliver, decodeEvent, exec, execTxDone, afterStart, h, hb], .txDone h hb⟩

/-- What a step did: it idled, or it took the oldest event. -/
theorem step_cases {s t : State} (h : step s = .next t) :
    (s.inbox = [] ∧ t = beginEvent [] s) ∨
      ∃ e rest, s.inbox = e :: rest ∧ Reaction e (beginEvent rest s) t := by
  unfold step at h
  split at h
  next hi =>
    simp only [idle, Host.Outcome.next.injEq] at h
    exact .inl ⟨hi, h.symm⟩
  next e rest hi =>
    obtain ⟨u, hu, hr⟩ := deliver_reaction e (beginEvent rest s)
    rw [hu, Host.Outcome.next.injEq] at h
    exact .inr ⟨e, rest, hi, h ▸ hr⟩

/-- An event taken as a whole step. -/
theorem react_reaction (e : Event) (s : State) :
    ∃ t, react e s = .next t ∧ Reaction e (beginEvent s.inbox s) t := deliver_reaction e _

@[simp] theorem runEvents_nil (s : State) : runEvents [] s = .next s := rfl

/-- A run after an event that answers `t` is a run from `t`. -/
theorem runEvents_cons {e : Event} {s t : State} (es : List Event) (h : react e s = .next t) :
    runEvents (e :: es) s = runEvents es t := by
  simp only [runEvents, h]

/-- A run is its first part followed by its second. -/
theorem runEvents_append {es : List Event} {s t : State} (es' : List Event) (h : runEvents es s = .next t) :
    runEvents (es ++ es') s = runEvents es' t := by
  induction es generalizing s with
  | nil =>
    rw [runEvents_nil, Host.Outcome.next.injEq] at h
    rw [h, List.nil_append]
  | cons e es ih =>
    obtain ⟨u, hu, -⟩ := react_reaction e s
    rw [List.cons_append, runEvents_cons _ hu]
    exact ih (runEvents_cons es hu ▸ h)

end Sys2Proof.Machine
end

