-- ==== Sys2Proof/Tests/Slice0.lean ====
section
/-! SUPPORT. Tests of single steps and of the decoder, and a witness for every obligation that has hypotheses. Expected values
are those of 95_test_vectors.md, or of the encodings of 30_encoding.md and opcode_table.json; each test names its source. -/

namespace Sys2Proof.Tests

open Sys2Proof.Machine

/-! ## States the tests start from -/

/-- "State (a)" of 95_test_vectors.md: after START, waiting. -/
def waiting : State := { State.reset with started := true, linkRx := .armed 0 1 }

/-- After RX_DONE `b0` and `n` ticks. -/
def inFrame (b0 : Byte) (n : Nat) : State :=
  { waiting with cursor := .inProgress, rxTicks := n, rxbuf := #v[b0, 0x00#8, 0x00#8], linkRx := .armed 1 2 }

/-- With a transmission in flight. -/
def busy (s : State) : State := { s with txBusy := true }

/-- With one event pending. -/
def pending (e : Event) (s : State) : State := { s with inbox := [e] }

/-- What a test looks at in a next state. -/
def seen {α : Type} (look : State → α) : Outcome → Option α
  | .next t => some (look t)
  | .fault _ => none
  | .refused _ => none

/-- The receiver's elements. -/
structure ReceiverView where
  cursor : Cursor
  rxTicks : Nat
  rxbuf : Vector Byte 3
  linkRx : LinkRx
  deriving DecidableEq, Repr

/-- The receiver's elements in a state. -/
def receiver (t : State) : ReceiverView := ⟨t.cursor, t.rxTicks, t.rxbuf, t.linkRx⟩

/-- A request with no LED bit and no reserved bit. -/
def plain (crc : Byte) : Request := { addr := 0x1#4, leds := 0x0#4, reserved := 0x0#4, crc := crc }

/-- The lines 1 to 4 written to the bits of a string of four Booleans. -/
def linesTo (a b c d : Bool) : List Action :=
  [.setLine .line1 a, .setLine .line2 b, .setLine .line3 c, .setLine .line4 d]

/-! ## WellFormed: each check refuses an ill-formed term -/

theorem test_wellFormed_rxDoneFirst : Instr.wellFormed (.rxDoneFirst [0x11#8]) = true ∧
    Instr.wellFormed (.rxDoneFirst [0x11#8, 0x01#8]) = false ∧ Instr.wellFormed (.rxDoneFirst []) = false := by decide

theorem test_wellFormed_rxDoneRemainder : Instr.wellFormed (.rxDoneRemainder [0x01#8, 0x2A#8]) = true ∧
    Instr.wellFormed (.rxDoneRemainder [0x01#8]) = false ∧
    Instr.wellFormed (.rxDoneRemainder [0x01#8, 0x2A#8, 0x00#8]) = false := by decide

/-! ## Decoding: words written out from 30_encoding.md rules R55, R57 (crc : reserved, led4..led1 : command, address) -/

theorem test_decode_sendData : decodeTableWord 24 0b01110101_00000000_00000001 = some (.sendData (plain 0x75#8)) := by decide

theorem test_decode_updateOutputs : decodeTableWord 24 0b10101000_11110001_00010001 =
    some (.updateOutputs { addr := 0x1#4, leds := 0b0001#4, reserved := 0xF#4, crc := 0xA8#8 }) := by decide

/-- The row's own word, as the table gives it: every operand 0. -/
theorem test_decode_table_word : decodeTableWord 24 0x000010 =
    some (.updateOutputs { addr := 0x0#4, leds := 0x0#4, reserved := 0x0#4, crc := 0x00#8 }) := by decide

theorem test_decode_errorReset : decodeTableWord 24 0b10101001_00000000_00100001 = some (.errorReset (plain 0xA9#8)) := by decide

theorem test_decode_unrecognised3 : decode [0x31#8, 0x00#8, 0xC7#8] = .ok (.cmdUnrecognised3 (plain 0xC7#8), []) := by rfl
theorem test_decode_unrecognised4 : decode [0x41#8, 0x00#8, 0xFC#8] = .ok (.cmdUnrecognised4 (plain 0xFC#8), []) := by rfl
theorem test_decode_unrecognised5 : decode [0x51#8, 0x00#8, 0x92#8] = .ok (.cmdUnrecognised5 (plain 0x92#8), []) := by rfl
theorem test_decode_unrecognised6 : decode [0x61#8, 0x00#8, 0x20#8] = .ok (.cmdUnrecognised6 (plain 0x20#8), []) := by rfl
theorem test_decode_unrecognised7 : decode [0x71#8, 0x00#8, 0x4E#8] = .ok (.cmdUnrecognised7 (plain 0x4E#8), []) := by rfl
theorem test_decode_unrecognised8 : decode [0x81#8, 0x00#8, 0x56#8] = .ok (.cmdUnrecognised8 (plain 0x56#8), []) := by rfl
theorem test_decode_unrecognised9 : decode [0x91#8, 0x00#8, 0x38#8] = .ok (.cmdUnrecognised9 (plain 0x38#8), []) := by rfl
theorem test_decode_unrecognisedA : decode [0xA1#8, 0x00#8, 0x8A#8] = .ok (.cmdUnrecognisedA (plain 0x8A#8), []) := by rfl
theorem test_decode_unrecognisedB : decode [0xB1#8, 0x00#8, 0xE4#8] = .ok (.cmdUnrecognisedB (plain 0xE4#8), []) := by rfl
theorem test_decode_unrecognisedC : decode [0xC1#8, 0x00#8, 0xDF#8] = .ok (.cmdUnrecognisedC (plain 0xDF#8), []) := by rfl
theorem test_decode_unrecognisedD : decode [0xD1#8, 0x00#8, 0xB1#8] = .ok (.cmdUnrecognisedD (plain 0xB1#8), []) := by rfl
theorem test_decode_unrecognisedE : decode [0xE1#8, 0x00#8, 0x03#8] = .ok (.cmdUnrecognisedE (plain 0x03#8), []) := by rfl
theorem test_decode_unrecognisedF : decode [0xF1#8, 0x00#8, 0x6D#8] = .ok (.cmdUnrecognisedF (plain 0x6D#8), []) := by rfl

/-- Each byte list shorter than a frame is rejected by name. -/
theorem test_decode_truncated : decode [] = .error (.truncated 0) ∧ decode [0x11#8] = .error (.truncated 1) ∧
    decode [0x11#8, 0x01#8] = .error (.truncated 2) := ⟨rfl, rfl, rfl⟩

/-- The event rows, from the encoding column of opcode_table.json. -/
theorem test_decode_events :
    decodeEvent .waitFirst .start = .start ∧ decodeEvent .waitFirst (.rxDone [0x11#8]) = .rxDoneFirst [0x11#8] ∧
    decodeEvent .inProgress (.rxDone [0x01#8, 0x2A#8]) = .rxDoneRemainder [0x01#8, 0x2A#8] ∧
    decodeEvent .waitFirst .tick = .tickWait ∧ decodeEvent .inProgress .tick = .tickInProgress ∧
    decodeEvent .waitFirst (.fault (.recognised .dma)) = .faultRecognised .dma ∧
    decodeEvent .inProgress (.fault (.other 9)) = .faultOther 9 ∧
    decodeEvent .waitFirst (.setTemp 0xFFFB#16) = .setTemp 0xFFFB#16 ∧
    decodeEvent .waitFirst (.setVolt 0x0CE4#16) = .setVolt 0x0CE4#16 ∧
    decodeEvent .inProgress (.setButton true) = .setButton true ∧ decodeEvent .inProgress .txDone = .txDone := by decide

/-- The internal rows. -/
theorem test_decode_internal : decodeCode (.callCrc8 [0x11#8]) = .ok (.crc8 [0x11#8]) ∧
    decodeCode (.callCrc16 [0x11#8]) = .ok (.crc16 [0x11#8]) ∧ decodeCode .callBuildAndSend = .ok .buildAndSend :=
  ⟨rfl, rfl, rfl⟩

/-- R57: the word of the frame 11 01 2A, and the frame encoded from its fields (R55). -/
theorem test_encode_updateOutputs : frameWord #v[0x11#8, 0x01#8, 0x2A#8] = 0x2A0111#24 ∧
    encode (.updateOutputs { addr := 0x1#4, leds := 0x1#4, reserved := 0x0#4, crc := 0x2A#8 }) =
      .request24 #v[0x11#8, 0x01#8, 0x2A#8] := by decide

/-! ## The CRC engines (95_test_vectors.md section 2) -/

theorem test_crc8 : crc8 [0x00#8, 0x00#8] = 0x81#8 ∧ crc8 [0xFF#8, 0xFF#8] = 0xAC#8 ∧ crc8 [0x11#8, 0x01#8] = 0x2A#8 ∧
    crc8 [0xBE#8, 0xEF#8] = 0x92#8 ∧
    crc8 [0x31#8, 0x32#8, 0x33#8, 0x34#8, 0x35#8, 0x36#8, 0x37#8, 0x38#8, 0x39#8] = 0xF7#8 := by decide +kernel

theorem test_crc16 : crc16 [0x00#8, 0x00#8, 0x00#8, 0x00#8, 0x00#8, 0x00#8] = 0x0E10#16 ∧
    crc16 [0xFF#8, 0xFF#8, 0xFF#8, 0xFF#8, 0xFF#8, 0xFF#8] = 0x99CF#16 ∧ crc16 [0x80#8] = 0x7078#16 ∧
    crc16 [0x31#8, 0x32#8, 0x33#8, 0x34#8, 0x35#8, 0x36#8, 0x37#8, 0x38#8, 0x39#8] = 0x29B1#16 := by decide +kernel

theorem test_crc_rows_answer :
    seen State.result (exec (.crc8 [0x80#8]) State.reset) = some (some (.crc8 0xD6#8)) ∧
    seen State.result (exec (.crc16 [0x01#8]) State.reset) = some (some (.crc16 0xF1D1#16)) := by decide +kernel

/-! ## The response (95_test_vectors.md section 3) -/

theorem test_packResponse_all_ones : packResponse 0xFFFF#16 0xFFFF#16 0xF#4 true 0xFF#8 =
    #v[0xFF#8, 0xFF#8, 0xFF#8, 0xFF#8, 0x1F#8, 0xFF#8, 0x7D#8, 0x89#8] := by decide +kernel

theorem test_packResponse_byte_order : packResponse 0x1234#16 0xABCD#16 0b1010#4 false 0x04#8 =
    #v[0x34#8, 0x12#8, 0xCD#8, 0xAB#8, 0x0A#8, 0x04#8, 0xE4#8, 0x0F#8] := by decide +kernel

theorem test_buildAndSend : seen (fun t => (t.actions, t.txBusy))
    (exec .buildAndSend { State.reset with temp := 0xFFFB#16, volt := 0x0CE4#16, led := 0x1#4, button := true }) =
      some ([.tx #v[0xFB#8, 0xFF#8, 0xE4#8, 0x0C#8, 0x11#8, 0x00#8, 0x99#8, 0x0D#8]], true) := by decide +kernel

/-! ## The command rows (95_test_vectors.md section 5) -/

theorem test_sendData : seen (fun t => (t.led, t.err, t.actions))
    (exec (.sendData (plain 0x75#8)) { waiting with err := 0x04#8 }) = some (0x0#4, 0x04#8, []) := by decide +kernel

theorem test_updateOutputs : seen (fun t => (t.led, t.actions))
    (exec (.updateOutputs { addr := 0x1#4, leds := 0b0101#4, reserved := 0x0#4, crc := 0xEE#8 }) { waiting with led := 0xF#4 }) =
      some (0b0101#4, linesTo true false true false) := by decide +kernel

theorem test_errorReset : seen State.err (exec (.errorReset (plain 0xA9#8)) { waiting with err := 0x04#8 }) = some 0x00#8 := by
  decide +kernel

/-- Rows W8 to W10 and the note under them: every unrecognised command latches 06. -/
theorem test_unrecognised : [Instr.cmdUnrecognised3 (plain 0xC7#8), .cmdUnrecognised4 (plain 0xFC#8),
    .cmdUnrecognised5 (plain 0x92#8), .cmdUnrecognised6 (plain 0x20#8), .cmdUnrecognised7 (plain 0x4E#8),
    .cmdUnrecognised8 (plain 0x56#8), .cmdUnrecognised9 (plain 0x38#8), .cmdUnrecognisedA (plain 0x8A#8),
    .cmdUnrecognisedB (plain 0xE4#8), .cmdUnrecognisedC (plain 0xDF#8), .cmdUnrecognisedD (plain 0xB1#8),
    .cmdUnrecognisedE (plain 0x03#8), .cmdUnrecognisedF (plain 0x6D#8)].all
      (fun i => seen State.err (exec i { waiting with err := 0x04#8 }) == some 0x06#8) = true := by decide +kernel

/-- W11: a frame with another frame's crc byte has no effect. -/
theorem test_command_bad_crc : seen State.err
    (exec (.cmdUnrecognised3 { addr := 0x1#4, leds := 0xF#4, reserved := 0x0#4, crc := 0xC7#8 }) waiting) = some 0x00#8 := by
  decide +kernel

/-! ## Steps of the receiver (95_test_vectors.md section 4) -/

/-- V1. -/
theorem test_start : seen (fun t => (receiver t, t.started, t.actions)) (step (pending .start State.reset)) =
    some (⟨.waitFirst, 0, #v[0x00#8, 0x00#8, 0x00#8], .armed 0 1⟩, true, [.armRx 0 1]) := by decide +kernel

/-- V9: mid-frame, and no AbortRx. -/
theorem test_start_mid_frame : seen (fun t => (receiver t, t.actions)) (step (pending .start (inFrame 0x11#8 1))) =
    some (⟨.waitFirst, 0, #v[0x00#8, 0x00#8, 0x00#8], .armed 0 1⟩, [.armRx 0 1]) := by decide +kernel

/-- V4. -/
theorem test_rxDoneFirst : seen (fun t => (receiver t, t.actions)) (step (pending (.rxDone [0x11#8]) waiting)) =
    some (⟨.inProgress, 0, #v[0x11#8, 0x00#8, 0x00#8], .armed 1 2⟩, [.armRx 1 2]) := by decide +kernel

/-- V16: two bytes where one is armed. -/
theorem test_rxDoneFirst_length : seen (fun t => (receiver t, t.actions, t.faulted))
    (step (pending (.rxDone [0x01#8, 0x00#8]) waiting)) =
      some (receiver waiting, [], some .rxUnarmed) := by decide +kernel

/-- V7. -/
theorem test_rxDoneRemainder : seen (fun t => (receiver t, t.led, t.txBusy, t.actions))
    (step (pending (.rxDone [0x01#8, 0x2A#8]) (inFrame 0x11#8 2))) =
      some (receiver waiting, 0b0001#4, true, linesTo true false false false ++
        [.tx #v[0x00#8, 0x00#8, 0x00#8, 0x00#8, 0x01#8, 0x00#8, 0x21#8, 0x3D#8], .armRx 0 1]) := by decide +kernel

/-- V13: a bad CRC hides the bad command. -/
theorem test_rxDoneRemainder_bad_crc : seen (fun t => (receiver t, t.err, t.actions))
    (step (pending (.rxDone [0x00#8, 0x93#8]) (inFrame 0x51#8 0))) = some (receiver waiting, 0x00#8, [.armRx 0 1]) := by
  decide +kernel

/-- V3. -/
theorem test_tickWait : seen (fun t => (receiver t, t.actions)) (step (pending .tick waiting)) = some (receiver waiting, []) := by
  decide +kernel

/-- V14. -/
theorem test_tickWait_before_start : seen (fun t => (receiver t, t.faulted)) (step (pending .tick State.reset)) =
    some (receiver State.reset, some .eventBeforeStart) := by decide +kernel

/-- V5 and V6: the second tick counts, the third aborts. -/
theorem test_tickInProgress : seen (fun t => (receiver t, t.actions)) (step (pending .tick (inFrame 0x11#8 1))) =
      some (receiver (inFrame 0x11#8 2), []) ∧
    seen (fun t => (receiver t, t.actions)) (step (pending .tick (inFrame 0x11#8 2))) =
      some (receiver waiting, [.abortRx, .armRx 0 1]) := by decide +kernel

/-! ## Error latch and staging (95_test_vectors.md section 6) -/

/-- X1 to X5, and X7: the last code wins. -/
theorem test_faultRecognised : [TransportFault.parity, .noise, .framing, .overrun, .dma].map
    (fun k => seen State.err (step (pending (.fault (.recognised k)) { waiting with err := 0x06#8 }))) =
      [some 0x01#8, some 0x02#8, some 0x03#8, some 0x04#8, some 0x05#8] := by decide +kernel

/-- X6. -/
theorem test_faultOther : seen (fun t => (t.err, t.faulted)) (step (pending (.fault (.other 7)) { waiting with err := 0x05#8 })) =
    some (0x05#8, none) := by decide +kernel

/-- X9: the setters before START. -/
theorem test_setters :
    seen (fun t => (t.temp, t.faulted)) (step (pending (.setTemp (BitVec.ofInt 16 (-5))) State.reset)) = some (0xFFFB#16, none) ∧
    seen (fun t => (t.volt, t.faulted)) (step (pending (.setVolt 3300#16) State.reset)) = some (0x0CE4#16, none) ∧
    seen (fun t => (t.button, t.faulted)) (step (pending (.setButton true) State.reset)) = some (true, none) := by
  decide +kernel

/-- X11: TX_OVERLAP leaves the received byte where it was. -/
theorem test_txOverlap : seen (fun t => (receiver t, t.txBusy, t.faulted, t.actions))
    (step (pending (.rxDone [0x00#8, 0x75#8]) (busy (inFrame 0x01#8 0)))) =
      some (receiver (inFrame 0x01#8 0), true, some .txOverlap, []) := by decide +kernel

/-- X12 and X13. -/
theorem test_txDone : seen (fun t => (t.txBusy, t.faulted)) (step (pending .txDone waiting)) =
      some (false, some .txDoneUnexpected) ∧
    seen (fun t => (t.txBusy, t.faulted)) (step (pending .txDone (busy waiting))) = some (false, none) := by decide +kernel

/-! ## Instantiation, placing a frame, scripts -/

/-- R6, R7: the smallest refused and the smallest and greatest accepted values. -/
theorem test_params : Params.valid { devAddr := 0, tRxTimeout := 1, errCodes := .reference } = false ∧
    Params.valid { devAddr := 1, tRxTimeout := 1, errCodes := .reference } = true ∧
    Params.valid { devAddr := 15, tRxTimeout := 1, errCodes := .reference } = true ∧
    Params.valid { devAddr := 16, tRxTimeout := 1, errCodes := .reference } = false ∧
    Params.valid { devAddr := 1, tRxTimeout := 0, errCodes := .reference } = false := by decide

/-- A table word placed at reset runs in the next step, as the frame it stands for. -/
theorem test_withFetchWord : seen (fun t => (t.led, t.started)) (step (State.reset.withFetchWord 24 0x350F11)) =
    some (0xF#4, true) := by decide +kernel

/-- 30_encoding.md rule R70, P1 of 95_test_vectors.md: lines of a script. -/
theorem test_script : readScript "SET_TEMP -5\nSTART ; boot\nRX_DONE 0x01 0x2A\nFAULT OTHER\n".toList =
    some [.setTemp 0xFFFB#16, .start, .rxDone [0x01#8, 0x2A#8], .fault (.other 0)] := by decide +kernel

/-- 30_encoding.md rule R71. -/
theorem test_script_pseudo : readScript "SETLEDS 1 0x01\nTICKS 2".toList =
      some [.rxDone [0x11#8], .rxDone [0x01#8, 0x2A#8], .tick, .tick] ∧
    readScript "POLL 16".toList = none := by decide +kernel

/-! ## Witnesses: for each obligation with hypotheses, a concrete state and operands that meet them together -/

/-- A step that answers a next state, with what was looked at in it. -/
theorem seen_next {α : Type} {look : State → α} {o : Outcome} {v : α} (h : seen look o = some v) :
    ∃ t, o = .next t ∧ look t = v := by
  cases o with
  | next t => exact ⟨t, rfl, Option.some.inj h⟩
  | fault r => cases h
  | refused r => cases h

theorem witness_CommandDecodeEncodeAgree : encode (.cmdUnrecognisedF { addr := 0xF#4, leds := 0xF#4, reserved := 0xF#4, crc := 0xFF#8 }) =
      .request24 #v[0xFF#8, 0xFF#8, 0xFF#8] ∧
    encode (.sendData { addr := 0x0#4, leds := 0x0#4, reserved := 0x0#4, crc := 0x00#8 }) =
      .request24 #v[0x00#8, 0x00#8, 0x00#8] := by decide

theorem witness_CommandRowsSelectByMask : ∃ row ∈ commandTable,
    frameWord #v[0xF1#8, 0x00#8, 0x6D#8] &&& 0x0000F0#24 = row.matchWord ∧
      frameWord #v[0x01#8, 0x00#8, 0x75#8] &&& 0x0000F0#24 ≠ row.matchWord :=
  ⟨commandTable[15], List.getElem_mem _, by decide, by decide⟩

theorem witness_ResponseReserveIsZero : State.reset.txbuf[4].extractLsb' 5 3 = 0b000#3 ∧
    ∃ t, step (pending .start State.reset) = .next t := ⟨by decide, _, rfl⟩

theorem witness_CrcEnginesAreAffine : [0x11#8, 0x01#8].length = [0xFF#8, 0x00#8].length := rfl

theorem witness_SingleBitErrorsAreDiscarded : validFrame Config.reference #v[0x11#8, 0x01#8, 0x2A#8] = true ∧ 0 < 8 ∧ 7 < 8 ∧
    (0x2B#8 : Byte) ≠ 0x2A#8 := by decide +kernel

theorem witness_ValidFrameTest :
    let c : Config := { params := { devAddr := 1, tRxTimeout := 9, errCodes := .reference }, ok := by decide }
    validFrame c #v[0x11#8, 0x01#8, 0x2A#8] = true ∧ c.params.devAddr = Config.reference.params.devAddr := by decide +kernel

theorem witness_AddressZeroNeverMatches : addrOf #v[0x10#8, 0x0F#8, 0xC1#8] = 0x0#4 ∧ crc8 [0x10#8, 0x0F#8] = 0xC1#8 := by
  decide +kernel

/-- Frames that differ in the reserved nibble; frames discarded for different addresses, with a transmission in flight; and two
unrecognised commands. -/
theorem witness_FrameClassDecidesOutcome :
    (waiting.started = true ∧ (inFrame 0x00#8 0).linkRx = .armed 1 2 ∧ (inFrame 0x00#8 0).txBusy = false) ∧
    (classify Config.reference #v[0x11#8, 0x01#8, 0x2A#8] = .validUpdateOutputs ∧
      classify Config.reference #v[0x11#8, 0xF1#8, 0xA8#8] = .validUpdateOutputs ∧
      ledsOf #v[0x11#8, 0x01#8, 0x2A#8] = ledsOf #v[0x11#8, 0xF1#8, 0xA8#8]) ∧
    (classify Config.reference #v[0x12#8, 0x0F#8, 0x18#8] = classify Config.reference #v[0x10#8, 0x0F#8, 0xC1#8] ∧
      classify Config.reference #v[0x12#8, 0x0F#8, 0x18#8] ≠ .validUpdateOutputs ∧
      (busy (inFrame 0x00#8 0)).txBusy = true ∧ validFrame Config.reference #v[0x12#8, 0x0F#8, 0x18#8] = false) ∧
    classify Config.reference #v[0x31#8, 0x0F#8, 0xE9#8] = classify Config.reference #v[0xF1#8, 0x00#8, 0x6D#8] := by
  decide +kernel

theorem witness_stateA : stateA waiting ∧ waiting.started = true ∧ waiting.txBusy = false := by decide

theorem witness_SendDataChangesNothing : validFrame waiting.cfg (frameOf cmdSendData (plain 0x75#8)) = true ∧
    (stateA waiting ∧ waiting.started = true ∧ waiting.txBusy = false) := by decide +kernel

theorem witness_UpdateOutputsWritesEachLane : validFrame waiting.cfg
    (frameOf cmdUpdateOutputs { addr := 0x1#4, leds := 0b0101#4, reserved := 0x0#4, crc := 0xEE#8 }) = true := by decide +kernel

theorem witness_ErrorResetClearsLatch : validFrame waiting.cfg (frameOf cmdErrorReset (plain 0xA9#8)) = true ∧
    (inFrame 0x21#8 0).started = true ∧ (inFrame 0x21#8 0).linkRx = .armed 1 2 ∧ (inFrame 0x21#8 0).txBusy = false ∧
    (inFrame 0x21#8 0).rxbuf[0] = (frameOf cmdErrorReset (plain 0xA9#8))[0] := by decide +kernel

theorem witness_UnrecognisedCommandsLatch : validFrame waiting.cfg (frameOf 0x3#4 (plain 0xC7#8)) = true ∧
    validFrame waiting.cfg (frameOf 0xF#4 (plain 0x6D#8)) = true ∧
    (inFrame 0xF1#8 0).started = true ∧ (inFrame 0xF1#8 0).linkRx = .armed 1 2 ∧ (inFrame 0xF1#8 0).txBusy = false ∧
    (inFrame 0xF1#8 0).rxbuf[0] = (frameOf 0xF#4 (plain 0x6D#8))[0] := by decide +kernel

theorem witness_InvalidCommandRowsDoNothing : encode (.sendData (plain 0x00#8)) = .request24 #v[0x01#8, 0x00#8, 0x00#8] ∧
    validFrame waiting.cfg #v[0x01#8, 0x00#8, 0x00#8] = false := by decide +kernel

theorem witness_RemainderRunsDecodedCommand : (inFrame 0x11#8 2).started = true ∧ (inFrame 0x11#8 2).linkRx = .armed 1 2 ∧
    (inFrame 0x11#8 2).txBusy = false ∧ validFrame waiting.cfg #v[(inFrame 0x11#8 2).rxbuf[0], 0x01#8, 0x2A#8] = true := by
  decide +kernel

theorem witness_StartIsIdempotent : stateA waiting ∧ waiting.started = true := by decide

theorem witness_FirstBytePhase : waiting.started = true ∧ waiting.linkRx = .armed 0 1 := by decide

/-- One witness for each class of valid frame. -/
theorem witness_RemainderAnswersValidFrame : (inFrame 0x11#8 0).started = true ∧ (inFrame 0x11#8 0).linkRx = .armed 1 2 ∧
    (inFrame 0x11#8 0).txBusy = false ∧ validFrame waiting.cfg #v[(inFrame 0x11#8 0).rxbuf[0], 0x0F#8, 0x35#8] = true ∧
    validFrame waiting.cfg #v[(inFrame 0x01#8 0).rxbuf[0], 0x00#8, 0x75#8] = true ∧
    validFrame waiting.cfg #v[(inFrame 0x21#8 0).rxbuf[0], 0x00#8, 0xA9#8] = true ∧
    validFrame waiting.cfg #v[(inFrame 0x31#8 0).rxbuf[0], 0x0F#8, 0xE9#8] = true ∧
    validFrame waiting.cfg #v[(inFrame 0xF1#8 0).rxbuf[0], 0x00#8, 0x6D#8] = true := by decide +kernel

theorem witness_InvalidFrameIsDiscarded : (inFrame 0x12#8 0).started = true ∧ (inFrame 0x12#8 0).linkRx = .armed 1 2 ∧
    validFrame waiting.cfg #v[(inFrame 0x12#8 0).rxbuf[0], 0x0F#8, 0x18#8] = false ∧
    validFrame waiting.cfg #v[(inFrame 0x11#8 0).rxbuf[0], 0x0F#8, 0x00#8] = false := by decide +kernel

/-- An answered frame, and an invalid one with a transmission in flight. -/
theorem witness_RearmIsUnconditional :
    ((inFrame 0x11#8 0).started = true ∧ (inFrame 0x11#8 0).linkRx = .armed 1 2 ∧
      ¬ ((inFrame 0x11#8 0).txBusy = true ∧ validFrame waiting.cfg #v[0x11#8, 0x01#8, 0x2A#8] = true)) ∧
    ((busy (inFrame 0x11#8 0)).started = true ∧ (busy (inFrame 0x11#8 0)).linkRx = .armed 1 2 ∧
      ¬ ((busy (inFrame 0x11#8 0)).txBusy = true ∧ validFrame waiting.cfg #v[0x11#8, 0x0F#8, 0x00#8] = true)) := by
  decide +kernel

theorem witness_TickWhileWaiting : waiting.started = true ∧ State.reset.started = false ∧ stateA waiting := by decide

/-- The last tick that counts and the tick that aborts, with T_RX_TIMEOUT = 3. -/
theorem witness_TickWhileInProgress : (inFrame 0x11#8 1).started = true ∧
    (inFrame 0x11#8 1).rxTicks + 1 < (inFrame 0x11#8 1).cfg.tRxTimeout ∧
    (inFrame 0x11#8 2).cfg.tRxTimeout ≤ (inFrame 0x11#8 2).rxTicks + 1 := by decide

theorem witness_TimeoutAbortsOnThreshold : stateB (inFrame 0x11#8 0) ∧ (inFrame 0x11#8 0).started = true ∧
    (inFrame 0x11#8 0).rxTicks = 0 ∧ 1 + 1 < (inFrame 0x11#8 0).cfg.tRxTimeout := by decide

theorem witness_AbortOnlyOnTimeout : ∃ t, step (pending .tick (inFrame 0x11#8 2)) = .next t ∧ .abortRx ∈ t.actions := by
  obtain ⟨t, h, hv⟩ := seen_next (look := fun t => decide (.abortRx ∈ t.actions))
    (o := step (pending .tick (inFrame 0x11#8 2))) (v := true) (by decide +kernel)
  exact ⟨t, h, of_decide_eq_true hv⟩

theorem witness_CursorTransitions_first : ∃ t, step (pending (.rxDone [0x11#8]) waiting) = .next t ∧
    waiting.cursor = .waitFirst ∧ t.cursor = .inProgress := by
  obtain ⟨t, h, hv⟩ := seen_next (look := State.cursor) (o := step (pending (.rxDone [0x11#8]) waiting))
    (v := .inProgress) (by decide +kernel)
  exact ⟨t, h, rfl, hv⟩

theorem witness_CursorTransitions_back : ∃ t, step (pending .start (inFrame 0x11#8 1)) = .next t ∧
    (inFrame 0x11#8 1).cursor = .inProgress ∧ t.cursor = .waitFirst := by
  obtain ⟨t, h, hv⟩ := seen_next (look := State.cursor) (o := step (pending .start (inFrame 0x11#8 1)))
    (v := .waitFirst) (by decide +kernel)
  exact ⟨t, h, rfl, hv⟩

/-- A frame in progress meets the invariant. -/
theorem inv_inFrame : Inv (inFrame 0x11#8 2) where
  receiver := by decide
  ticks_le := by decide
  err_legal := by decide
  reserve_zero := by decide
  in_flight := by decide

/-- The state P5 of 95_test_vectors.md ends in, before its last event: a poll half received while a response is in flight. -/
def overlapping : State := { busy (inFrame 0x01#8 0) with txbuf := packResponse 0 0 0 false 0 }

theorem inv_overlapping : Inv overlapping where
  receiver := by decide
  ticks_le := by decide
  err_legal := by decide
  reserve_zero := by decide
  in_flight := by decide +kernel

theorem inv_waiting : Inv waiting where
  receiver := by decide
  ticks_le := by decide
  err_legal := by decide
  reserve_zero := by decide
  in_flight := by decide

/-- Before START. -/
theorem inv_reset : Inv State.reset where
  receiver := by decide
  ticks_le := by decide
  err_legal := by decide
  reserve_zero := by decide
  in_flight := by decide

theorem witness_NoLockout : Inv (inFrame 0x11#8 2) ∧ (inFrame 0x11#8 2).started = true := ⟨inv_inFrame, rfl⟩

theorem witness_TimelyFrameIsAnswered : stateA waiting ∧ waiting.started = true ∧ waiting.txBusy = false ∧
    validFrame waiting.cfg #v[0x11#8, 0x01#8, 0x2A#8] = true ∧ 0 < waiting.cfg.tRxTimeout ∧ 2 < waiting.cfg.tRxTimeout := by
  decide +kernel

theorem witness_FaultRecordsItsCode : waiting.started = true := rfl

theorem witness_BuildAndSendPacksState : waiting.txBusy = false ∧ (busy waiting).txBusy = true := by decide

theorem witness_TxDoneEndsTransmission : waiting.started = true ∧ (busy waiting).txBusy = true ∧ waiting.txBusy = false := by
  decide

theorem witness_EveryTxIsFresh : ∃ t,
    (pending (.rxDone [0x01#8, 0x2A#8]) (inFrame 0x11#8 2)).inbox = [.rxDone [0x01#8, 0x2A#8]] ∧
    step (pending (.rxDone [0x01#8, 0x2A#8]) (inFrame 0x11#8 2)) = .next t ∧ sent t.actions ≠ [] ∧
    responseDue (pending (.rxDone [0x01#8, 0x2A#8]) (inFrame 0x11#8 2)) (.rxDone [0x01#8, 0x2A#8]) = true := by
  obtain ⟨t, h, hv⟩ := seen_next (look := fun t => decide (sent t.actions ≠ []))
    (o := step (pending (.rxDone [0x01#8, 0x2A#8]) (inFrame 0x11#8 2))) (v := true) (by decide +kernel)
  exact ⟨t, rfl, h, of_decide_eq_true hv, by decide +kernel⟩

/-- A transport fault changes ERR. -/
theorem witness_ErrChangesOnlyThroughWriters_fault : ∃ t,
    step (pending (.fault (.recognised .noise)) waiting) = .next t ∧ t.err ≠ waiting.err := by
  obtain ⟨t, h, hv⟩ := seen_next (look := State.err) (o := step (pending (.fault (.recognised .noise)) waiting))
    (v := 0x02#8) (by decide +kernel)
  exact ⟨t, h, by rw [hv]; decide⟩

/-- An unrecognised command changes ERR. -/
theorem witness_ErrChangesOnlyThroughWriters_frame : ∃ t,
    step (pending (.rxDone [0x00#8, 0x92#8]) (inFrame 0x51#8 0)) = .next t ∧ t.err ≠ waiting.err := by
  obtain ⟨t, h, hv⟩ := seen_next (look := State.err) (o := step (pending (.rxDone [0x00#8, 0x92#8]) (inFrame 0x51#8 0)))
    (v := 0x06#8) (by decide +kernel)
  exact ⟨t, h, by rw [hv]; decide⟩

theorem witness_OnlyErrorResetClearsErr : ∃ s t : State, step s = .next t ∧ s.err ≠ s.cfg.errCodes.noError ∧
    t.err = s.cfg.errCodes.noError ∧ s.cfg = waiting.cfg := by
  obtain ⟨t, h, hv⟩ := seen_next (look := State.err)
    (o := step (pending (.rxDone [0x00#8, 0xA9#8]) { inFrame 0x21#8 0 with err := 0x04#8 })) (v := 0x00#8)
    (by decide +kernel)
  exact ⟨_, t, h, by decide, hv, rfl⟩

theorem witness_LedChangesOnlyOnUpdate : ∃ t,
    step (pending (.rxDone [0x01#8, 0x2A#8]) (inFrame 0x11#8 2)) = .next t ∧ t.led ≠ waiting.led := by
  obtain ⟨t, h, hv⟩ := seen_next (look := State.led) (o := step (pending (.rxDone [0x01#8, 0x2A#8]) (inFrame 0x11#8 2)))
    (v := 0x1#4) (by decide +kernel)
  exact ⟨t, h, by rw [hv]; decide⟩

/-- Line 1 changes, and a SetLine names it; line 4 is written and does not change. -/
theorem witness_LinesAgreeWithLatch : ∃ t, step (pending (.rxDone [0x01#8, 0x2A#8]) (inFrame 0x11#8 2)) = .next t ∧
    t.outLine .line1 ≠ waiting.outLine .line1 ∧ .setLine .line4 false ∈ t.actions := by
  obtain ⟨t, h, hv⟩ := seen_next
    (look := fun t => decide (t.outLine .line1 ≠ waiting.outLine .line1 ∧ .setLine .line4 false ∈ t.actions))
    (o := step (pending (.rxDone [0x01#8, 0x2A#8]) (inFrame 0x11#8 2))) (v := true) (by decide +kernel)
  exact ⟨t, h, of_decide_eq_true hv⟩

theorem witness_TelemetryChangesOnlyBySetters : ∃ t, step (pending (.setTemp 0xFFFB#16) State.reset) = .next t ∧
    t.temp ≠ State.reset.temp := by
  obtain ⟨t, h, hv⟩ := seen_next (look := State.temp) (o := step (pending (.setTemp 0xFFFB#16) State.reset))
    (v := 0xFFFB#16) (by decide +kernel)
  exact ⟨t, h, by rw [hv]; decide⟩

theorem witness_EventsBeforeStartAreMarked : State.reset.started = false ∧
    (∃ d, (Instr.rxDoneRemainder [] = .rxDoneFirst d ∨ Instr.rxDoneRemainder [] = .rxDoneRemainder d)) ∧
    (∃ k, Instr.faultRecognised .dma = .faultRecognised k) ∧ ∃ x, Instr.faultOther 0 = .faultOther x :=
  ⟨rfl, ⟨_, .inr rfl⟩, ⟨_, rfl⟩, ⟨_, rfl⟩⟩

/-- One byte too many, none at all, and a delivery with nothing armed. -/
theorem witness_UnarmedDeliveryIsMarked : waiting.started = true ∧
    (∀ off, waiting.linkRx ≠ .armed off [0x01#8, 0x00#8].length) ∧ (∀ off, waiting.linkRx ≠ .armed off ([] : List Byte).length) ∧
    (∀ off, ({ waiting with linkRx := .none } : State).linkRx ≠ .armed off [0x01#8].length) := by
  simp [waiting]

theorem witness_TransmitOverlapUndoesStep : (busy (inFrame 0x01#8 0)).started = true ∧
    (busy (inFrame 0x01#8 0)).linkRx = .armed 1 2 ∧ (busy (inFrame 0x01#8 0)).txBusy = true ∧
    validFrame waiting.cfg #v[(busy (inFrame 0x01#8 0)).rxbuf[0], 0x00#8, 0x75#8] = true := by decide +kernel

/-- Each of the four kinds, and an event that raises none. -/
theorem witness_ModelFaultsExactlyAsTabled :
    (Inv State.reset ∧ modelFault State.reset .tick = some .eventBeforeStart) ∧
    (Inv waiting ∧ modelFault waiting (.rxDone [0x01#8, 0x00#8]) = some .rxUnarmed ∧
      modelFault waiting .txDone = some .txDoneUnexpected ∧ modelFault waiting (.rxDone [0x11#8]) = none) ∧
    (Inv overlapping ∧ modelFault overlapping (.rxDone [0x00#8, 0x75#8]) = some .txOverlap) :=
  ⟨⟨inv_reset, by decide⟩, ⟨inv_waiting, by decide +kernel⟩, inv_overlapping, by decide +kernel⟩

theorem witness_FaultMarkIsPermanent : ∃ t,
    step (pending .tick { State.reset with faulted := some .rxUnarmed }) = .next t ∧
    (pending .tick { State.reset with faulted := some .rxUnarmed }).faulted = some .rxUnarmed := by
  obtain ⟨t, h, -⟩ := seen_next (look := State.faulted)
    (o := step (pending .tick { State.reset with faulted := some .rxUnarmed })) (v := some .rxUnarmed) (by decide +kernel)
  exact ⟨t, h, rfl⟩

theorem witness_FaultingStepOnlySetsMark : ∃ t, step (pending .tick State.reset) = .next t ∧ t.faulted ≠ State.reset.faulted := by
  obtain ⟨t, h, hv⟩ := seen_next (look := State.faulted) (o := step (pending .tick State.reset))
    (v := some .eventBeforeStart) (by decide +kernel)
  exact ⟨t, h, by rw [hv]; decide⟩

/-- A run that keeps the contract: START, a setter, a first byte. -/
theorem witness_ContractRunsAreSafe : Inv State.reset ∧ State.reset.safe ∧
    keepsContract [.start, .setButton true, .rxDone [0x11#8]] State.reset := by
  refine ⟨inv_reset, rfl, rfl, ?_⟩
  intro t ht
  injection ht with ht
  subst ht
  refine ⟨rfl, ?_⟩
  intro t ht
  injection ht with ht
  subst ht
  exact ⟨by decide +kernel, fun _ _ => trivial⟩

theorem witness_StepRunsDecodedInstruction : (pending .tick waiting).inbox = .tick :: [] ∧ waiting.inbox = [] ∧
    waiting.cursor = .waitFirst ∧ (inFrame 0x11#8 0).cursor = .inProgress := by decide

theorem witness_EveryStepKeepsInvariant : ∃ t, Inv (pending .tick (inFrame 0x11#8 2)) ∧
    step (pending .tick (inFrame 0x11#8 2)) = .next t := by
  obtain ⟨t, h, -⟩ := seen_next (look := State.cursor) (o := step (pending .tick (inFrame 0x11#8 2)))
    (v := .waitFirst) (by decide +kernel)
  exact ⟨t, ⟨by decide, by decide, by decide, by decide, by decide⟩, h⟩

theorem witness_DevAddrIsFixed : ∃ t, ({ devAddr := 0, tRxTimeout := 1, errCodes := .reference } : Params).devAddr = 0 ∧
    16 ≤ ({ devAddr := 16, tRxTimeout := 1, errCodes := .reference } : Params).devAddr ∧
    step (pending .start State.reset) = .next t :=
  ⟨_, rfl, by decide, rfl⟩

theorem witness_ConfigurationIsCheckedAndFixed :
    let p : Params := { devAddr := 15, tRxTimeout := 1, errCodes := .reference }
    let q : Params := { devAddr := 15, tRxTimeout := 0, errCodes := .reference }
    1 ≤ p.devAddr ∧ p.devAddr ≤ 15 ∧ 1 ≤ p.tRxTimeout ∧ q.tRxTimeout = 0 ∧ ∃ t, step (pending .start State.reset) = .next t :=
  ⟨by decide, by decide, by decide, rfl, _, rfl⟩

end Sys2Proof.Tests
end

section
/-! PROOFS for 00_scope.md: the range of DEV_ADDR, the refusal of other parameters, and that no event writes the configuration. -/

namespace Sys2Proof

/-- R6 and R7 as inequalities. -/
theorem Params.valid_iff (p : Params) : p.valid = true ↔ 1 ≤ p.devAddr ∧ p.devAddr ≤ 15 ∧ 1 ≤ p.tRxTimeout := by
  simp [Params.valid, and_assoc]

theorem Config.one_le_devAddr (c : Config) : 1 ≤ c.params.devAddr := ((Params.valid_iff _).1 c.ok).1

theorem Config.devAddr_le (c : Config) : c.params.devAddr ≤ 15 := ((Params.valid_iff _).1 c.ok).2.1

/-- R6: the 4-bit constant loses nothing of the parameter. -/
@[simp] theorem Config.devAddr_toNat (c : Config) : c.devAddr.toNat = c.params.devAddr := by
  have hlt : c.params.devAddr < 2 ^ 4 := Nat.lt_succ_of_le c.devAddr_le
  rw [Config.devAddr, BitVec.toNat_ofNat, Nat.mod_eq_of_lt hlt]

end Sys2Proof

namespace Sys2Proof.Machine

/-- R144: parameters outside R6 and R7 are CONFIG_INVALID. -/
theorem instantiate_of_not_valid {p : Params} (h : ¬ p.valid = true) : instantiate p = .refused .configInvalid := dif_neg h

/-- No event writes the configuration. -/
theorem Reaction.cfg_eq {e : Event} {s t : State} (h : Reaction e s t) : t.cfg = s.cfg := by
  cases h <;> rfl

/-- R31: no step writes the configuration. -/
theorem step_cfg {s t : State} (h : step s = .next t) : t.cfg = s.cfg := by
  obtain ⟨-, rfl⟩ | ⟨e, rest, -, hr⟩ := step_cases h
  · exact beginEvent_cfg s []
  · exact hr.cfg_eq.trans (beginEvent_cfg s rest)

/-- Settles O59: the range is the proof a configuration carries, and no reaction writes the configuration. -/
theorem devAddrIsFixed : Obligations.DevAddrIsFixed := by
  refine ⟨fun s => ⟨s.cfg.one_le_devAddr, s.cfg.devAddr_le, s.cfg.devAddr_toNat⟩, fun p hp => ?_, fun s t h => ?_⟩
  · have hnot : ¬ p.valid = true := by
      rw [Params.valid_iff]
      omega
    exact instantiate_of_not_valid hnot
  · rw [step_cfg h]

end Sys2Proof.Machine
end

section
/-! PROOFS for 10_state.md: the output lines and the SetLine actions. -/

namespace Sys2Proof.Machine

/-- R56 over the latch: the request for a line is its bit of the LED field. -/
theorem ledsOf_getLsbD_bit (f : Frame) (l : Line) : (ledsOf f).getLsbD l.bit = ledReq f l := by
  have hlt : l.bit < 4 := by cases l <;> decide
  simp [ledsOf, ledReq, hlt]

/-- UPDATE_OUTPUTS emits one SetLine for each line, with the requested value. -/
theorem setLine_mem_setLines {f : Frame} {l : Line} {b : Bool} : .setLine l b ∈ setLines f ↔ ledReq f l = b := by
  cases l <;> simp [Line.all, eq_comm]

/-- What an event does to the lines (R25, R39): it leaves the latch alone and adds no SetLine, or it adds for each line the
SetLine of the line's new value. -/
def KeepsOrDrivesLines (s t : State) : Prop :=
  (t.led = s.led ∧ ∀ l b, .setLine l b ∈ t.actions ↔ .setLine l b ∈ s.actions) ∨
    ∀ l b, .setLine l b ∈ t.actions ↔ .setLine l b ∈ s.actions ∨ t.outLine l = b

/-- R112: an answered UPDATE_OUTPUTS drives the lines, any other answered frame keeps them. -/
theorem answered_keepsOrDrivesLines (f : Frame) (s : State) : KeepsOrDrivesLines s (answered f s) := by
  by_cases hcmd : cmdOf f = cmdUpdateOutputs
  · right
    intro l b
    have hline : (answered f s).outLine l = ledReq f l := by
      simp [answered, State.outLine, State.ledLine, ledAfter, hcmd, ledsOf_getLsbD_bit]
    rw [hline, ← setLine_mem_setLines]
    simp [answered, dispatchActions, hcmd, -List.mem_map]
  · left
    constructor <;> simp [answered, ledAfter, dispatchActions, hcmd]

theorem Reaction.keepsOrDrivesLines {e : Event} {s t : State} (h : Reaction e s t) : KeepsOrDrivesLines s t := by
  cases h
  case answered => exact answered_keepsOrDrivesLines _ s
  all_goals exact .inl ⟨rfl, fun l b => by simp⟩

/-- A step, whose action list starts empty, moves no line and emits no SetLine, or emits exactly the SetLine of each line's
new value. -/
theorem step_lines_cases {s t : State} (h : step s = .next t) :
    (t.led = s.led ∧ ∀ l b, .setLine l b ∉ t.actions) ∨ ∀ l b, .setLine l b ∈ t.actions ↔ t.outLine l = b := by
  obtain ⟨-, rfl⟩ | ⟨e, rest, -, hr⟩ := step_cases h
  · exact .inl ⟨rfl, fun l b => List.not_mem_nil⟩
  · simpa [KeepsOrDrivesLines] using hr.keepsOrDrivesLines

/-- Settles O45: the line is a view of the latch, and a step either keeps the lines or drives all four. -/
theorem linesAgreeWithLatch : Obligations.LinesAgreeWithLatch := by
  intro s t h l
  refine ⟨rfl, ?_⟩
  obtain ⟨hled, hnone⟩ | hdriven := step_lines_cases h
  · have hline : t.outLine l = s.outLine l := congrArg (·.getLsbD l.bit) hled
    exact ⟨fun b hb => absurd hb (hnone l b), fun hne => absurd hline hne⟩
  · exact ⟨fun b hb => (hdriven l b).1 hb, fun _ => (hdriven l _).2 rfl⟩

end Sys2Proof.Machine
end

section
/-! PROOFS for 30_encoding.md: what a step leaves in TXBUF, and the response's reserve bits. -/

namespace Sys2Proof.Machine

/-- R63: byte 4 of a packed response is the status byte, whose top three bits are zero. -/
theorem packResponse_reserve (temp volt : Half) (led : BitVec 4) (button : Bool) (err : Byte) :
    (packResponse temp volt led button err)[4].extractLsb' 5 3 = 0b000#3 := by
  have hbyte : (packResponse temp volt led button err)[4] = statusByte led button := rfl
  obtain ⟨-, -, hreserve⟩ := statusByte_fields led button
  rw [hbyte]
  exact hreserve

/-- R165: a reset clears byte 4 of TXBUF, and with it the reserve bits. -/
theorem powerCycle_reserve (s : State) : (powerCycle s).txbuf[4].extractLsb' 5 3 = 0b000#3 := by
  have hbyte : (powerCycle s).txbuf[4] = 0x00#8 := rfl
  rw [hbyte]
  decide

/-- R126: TXBUF is written only by an answered frame, and then with a packed response. -/
theorem Reaction.txbuf_cases {e : Event} {s t : State} (h : Reaction e s t) :
    t.txbuf = s.txbuf ∨ ∃ temp volt led button err, t.txbuf = packResponse temp volt led button err := by
  cases h
  case answered => exact .inr ⟨_, _, _, _, _, rfl⟩
  all_goals exact .inl rfl

/-- R126: a step keeps TXBUF or leaves a packed response there. -/
theorem step_txbuf_cases {s t : State} (h : step s = .next t) :
    t.txbuf = s.txbuf ∨ ∃ temp volt led button err, t.txbuf = packResponse temp volt led button err := by
  obtain ⟨-, rfl⟩ | ⟨e, rest, -, hr⟩ := step_cases h
  · exact .inl (beginEvent_txbuf s [])
  · exact beginEvent_txbuf s rest ▸ hr.txbuf_cases

/-- Settles O8: TXBUF is all zero after a reset, and a step keeps it or packs a response into it. -/
theorem responseReserveIsZero : Obligations.ResponseReserveIsZero := by
  refine ⟨packResponse_reserve, powerCycle_reserve, fun s t hs h => ?_⟩
  obtain hkept | ⟨temp, volt, led, button, err, hpacked⟩ := step_txbuf_cases h
  · rw [hkept, hs]
  · rw [hpacked, packResponse_reserve]

end Sys2Proof.Machine
end

section
/-! PROOFS for 41_receiver.md: the first-byte phase of a receive. -/

namespace Sys2Proof.Machine

/-- R99: the checks pass for a delivery of the armed length to a started receiver. -/
theorem rxDonePrecondition_eq_none {s : State} {d : List Byte} {off : Nat} (hs : s.started = true)
    (ha : s.linkRx = .armed off d.length) : rxDonePrecondition s d = none := by
  simp [rxDonePrecondition, hs, ha]

/-- R92: a single byte delivered to a started receiver that is armed for one is taken as the first byte. -/
theorem execRxDoneFirst_eq_firstByte {s : State} {off : Nat} (d0 : Byte) (hs : s.started = true)
    (ha : s.linkRx = .armed off 1) : execRxDoneFirst [d0] s = .next (firstByte d0 s) := by
  have hpass : rxDonePrecondition s [d0] = none := rxDonePrecondition_eq_none hs ha
  simp only [execRxDoneFirst, hpass]

/-- Settles O26: the checks pass, so the row takes the byte, and `firstByte_eq` lists what that writes. -/
theorem firstBytePhase : Obligations.FirstBytePhase := by
  intro s d0 off hs ha
  calc exec (.rxDoneFirst [d0]) s
    _ = execRxDoneFirst [d0] s := rfl
    _ = .next (firstByte d0 s) := execRxDoneFirst_eq_firstByte d0 hs ha
    _ = _ := by rw [firstByte_eq]

end Sys2Proof.Machine
end

section
/-! PROOFS for 43_response.md: the writers of the error latch. -/

namespace Sys2Proof.Machine

/-- R93: a two-byte delivery armed in the remainder phase completes the frame whose first byte is in RXBUF. -/
theorem completedFrame_rxDone {s : State} {off : Nat} (d1 d2 : Byte) (hs : s.started = true) (hc : s.cursor = .inProgress)
    (ha : s.linkRx = .armed off 2) : completedFrame s (.rxDone [d1, d2]) = some #v[s.rxbuf[0], d1, d2] := by
  simp [completedFrame, hs, hc, ha]

/-- Taking an event from the inbox leaves the frame it completes as it was. -/
@[simp] theorem completedFrame_beginEvent (rest : List Event) (s : State) (e : Event) :
    completedFrame (beginEvent rest s) e = completedFrame s e := rfl

/-- R111 to R114: a frame's dispatch keeps ERR, clears it for ERROR_RESET, or latches INCORRECT_COMMAND for a command that is
none of the three. -/
theorem errAfter_cases (c : ErrCodes) (f : Frame) (err : Byte) :
    errAfter c f err = err ∨
      (cmdOf f = cmdErrorReset ∧ errAfter c f err = c.noError) ∨
      (cmdOf f ≠ cmdSendData ∧ cmdOf f ≠ cmdUpdateOutputs ∧ cmdOf f ≠ cmdErrorReset ∧
        errAfter c f err = c.incorrectCommand) := by
  by_cases hkeep : cmdOf f = cmdSendData ∨ cmdOf f = cmdUpdateOutputs
  · exact .inl (if_pos hkeep)
  · have hdispatch : errAfter c f err = if cmdOf f = cmdErrorReset then c.noError else c.incorrectCommand := if_neg hkeep
    obtain ⟨hsend, hupdate⟩ := not_or.1 hkeep
    by_cases hreset : cmdOf f = cmdErrorReset
    · exact .inr (.inl ⟨hreset, hdispatch.trans (if_pos hreset)⟩)
    · exact .inr (.inr ⟨hsend, hupdate, hreset, hdispatch.trans (if_neg hreset)⟩)

/-- R130: an event keeps ERR, or it is a recognised fault, or it completes a valid frame, whose dispatch then decides. -/
theorem Reaction.err_cases {e : Event} {s t : State} (h : Reaction e s t) :
    t.err = s.err ∨
      (∃ k, e = .fault (.recognised k) ∧ t.err = faultCode s.cfg.errCodes k) ∨
      ∃ f, completedFrame s e = some f ∧ validFrame s.cfg f = true ∧ t.err = errAfter s.cfg.errCodes f s.err := by
  cases h
  case fault k _ => exact .inr (.inl ⟨k, rfl, rfl⟩)
  case answered d1 d2 off hs hc ha hv _ => exact .inr (.inr ⟨_, completedFrame_rxDone d1 d2 hs hc ha, hv, rfl⟩)
  all_goals exact .inl rfl

/-- R130: `Reaction.err_cases` for a whole step, whose event is the oldest of the inbox. -/
theorem step_err_cases {s t : State} (h : step s = .next t) :
    t.err = s.err ∨
      (∃ k, s.inbox.head? = some (.fault (.recognised k)) ∧ t.err = faultCode s.cfg.errCodes k) ∨
      ∃ e f, s.inbox.head? = some e ∧ completedFrame s e = some f ∧ validFrame s.cfg f = true ∧
        t.err = errAfter s.cfg.errCodes f s.err := by
  obtain ⟨-, rfl⟩ | ⟨e, rest, hi, hr⟩ := step_cases h
  · exact .inl (beginEvent_err s [])
  · have hhead : s.inbox.head? = some e := by rw [hi, List.head?_cons]
    have hcases := hr.err_cases
    simp only [beginEvent_err, beginEvent_cfg, completedFrame_beginEvent] at hcases
    obtain hkept | ⟨k, rfl, herr⟩ | ⟨f, hf, hv, herr⟩ := hcases
    · exact .inl hkept
    · exact .inr (.inl ⟨k, hhead, herr⟩)
    · exact .inr (.inr ⟨e, f, hhead, hf, hv, herr⟩)

/-- R165: a reset clears ERR. -/
theorem powerCycle_err (s : State) : (powerCycle s).err = s.cfg.errCodes.noError := rfl

/-- Settles O42: a step that changes ERR took a recognised fault or completed a valid frame, and of the valid frames only
ERROR_RESET and the unrecognised commands write ERR. -/
theorem errChangesOnlyThroughWriters : Obligations.ErrChangesOnlyThroughWriters := by
  refine ⟨fun s t h hne => ?_, powerCycle_err⟩
  obtain hkept | hfault | ⟨e, f, hhead, hf, hv, herr⟩ := step_err_cases h
  · exact absurd hkept hne
  · exact .inl hfault
  · rw [herr] at hne ⊢
    exact .inr ⟨e, f, hhead, hf, hv, (errAfter_cases s.cfg.errCodes f s.err).resolve_left hne⟩

end Sys2Proof.Machine
end

section
/-! PROOFS for 70_reset_and_hazards.md: which events clear the error latch. -/

namespace Sys2Proof

/-- R11: the first of the seven distinct codes is none of the other six. -/
theorem ErrCodes.noError_notMem (c : ErrCodes) :
    c.noError ∉ [c.parity, c.noise, c.framing, c.overrun, c.dma, c.incorrectCommand] :=
  (List.nodup_cons.1 (of_decide_eq_true c.distinct)).1

theorem ErrCodes.incorrectCommand_ne_noError (c : ErrCodes) : c.incorrectCommand ≠ c.noError :=
  fun heq => c.noError_notMem (by simp [heq])

end Sys2Proof

namespace Sys2Proof.Machine

/-- R120, R11: a recognised fault latches a code other than NONE. -/
theorem faultCode_ne_noError (c : ErrCodes) (k : TransportFault) : faultCode c k ≠ c.noError := by
  intro heq
  apply c.noError_notMem
  rw [← heq]
  cases k <;> simp [faultCode]

/-- R166: a power cycle keeps nothing but the configuration. -/
theorem powerCycle_eq_of_cfg_eq {s s' : State} (h : s.cfg = s'.cfg) : powerCycle s = powerCycle s' :=
  congrArg State.resetWith h

/-- Settles O43: clearing a latched ERR changes it, so one of the writers of ERR did it; a recognised fault and an unrecognised
command write a code other than NONE, which leaves ERROR_RESET. -/
theorem onlyErrorResetClearsErr : Obligations.OnlyErrorResetClearsErr := by
  refine ⟨fun s t h hlatched hclear => ?_, fun s s' hcfg => ⟨powerCycle_eq_of_cfg_eq hcfg, powerCycle_err s⟩⟩
  have hchanged : t.err ≠ s.err := fun hkept => hlatched (hkept ▸ hclear)
  obtain ⟨k, -, hfault⟩ | ⟨e, f, hhead, hf, hv, ⟨hreset, -⟩ | ⟨-, -, -, hunrecognised⟩⟩ :=
    errChangesOnlyThroughWriters.1 s t h hchanged
  · exact absurd (hfault.symm.trans hclear) (faultCode_ne_noError s.cfg.errCodes k)
  · exact ⟨e, f, hhead, hf, hv, hreset⟩
  · exact absurd (hunrecognised.symm.trans hclear) s.cfg.errCodes.incorrectCommand_ne_noError

end Sys2Proof.Machine
end

section
/-! PROOFS for 30_encoding.md sections 1 to 4: the command rows, the fields of a request frame and the bytes of a response. -/

namespace Sys2Proof

open Machine

/-- Decoding reads the frame at the front of a byte list and leaves what follows it. -/
theorem decode_frameBytes {f : Frame} {i : Instr} (h : decodeFrame f = some i) (rest : List Byte) :
    decode (frameBytes f ++ rest) = .ok (i, rest) := by
  have hframe : decodeFrame #v[f[0], f[1], f[2]] = some i := by rw [frame_bytes, h]
  simp only [frameBytes, List.cons_append, List.nil_append, decode, hframe]

/-- Settles O2: an encoded command is decoded by its own row, and every frame selects a row. -/
theorem commandDecodeEncodeAgree : Obligations.CommandDecodeEncodeAgree := by
  refine ⟨fun i f h rest => decode_frameBytes (decodeFrame_of_encode h) rest, fun f rest => ?_⟩
  obtain ⟨i, hdecode, hencode⟩ := decodeFrame_isSome f
  exact ⟨i, decode_frameBytes hdecode rest, hencode⟩

/-- Settles O1: each list is read by the decoder. -/
theorem writtenFramesDecode : Obligations.WrittenFramesDecode := ⟨rfl, rfl, rfl, rfl, rfl, rfl, rfl⟩

/-- Decoding a frame to `i` is `i` encoding to the frame. -/
theorem decodeFrame_eq_some_iff {f : Frame} {i : Instr} : decodeFrame f = some i ↔ encode i = .request24 f := by
  refine ⟨fun h => ?_, decodeFrame_of_encode⟩
  obtain ⟨j, hdecode, hencode⟩ := decodeFrame_isSome f
  rw [h, Option.some.injEq] at hdecode
  rw [hdecode, hencode]

/-- R57: the instruction of a row encodes to the frame with the row's command value. -/
theorem encode_commandRow {row : CommandRow} (h : row ∈ commandTable) (r : Request) :
    encode (row.build r) = .request24 (frameOf row.code r) := by
  simp only [commandTable, List.cons_append, List.nil_append, List.mem_cons, List.not_mem_nil, or_false] at h
  rcases h with rfl | rfl | rfl | rfl | rfl | rfl | rfl | rfl | rfl | rfl | rfl | rfl | rfl | rfl | rfl | rfl
  all_goals rfl

/-- A frame has the fields of its request and the command value `c` exactly when `c` is its own. -/
theorem frameOf_requestOf_eq_iff {c : Nibble} {f : Frame} : frameOf c (requestOf f) = f ↔ c = cmdOf f := by
  constructor
  · intro h
    rw [← cmdOf_frameOf c (requestOf f), h]
  · rintro rfl
    exact frameOf_parts f

/-- R57: the mask keeps the command nibble of the frame's word. -/
theorem frameWord_and_mask (f : Frame) : frameWord f &&& 0x0000F0#24 = (cmdOf f).setWidth 24 <<< 4 := by
  apply BitVec.eq_of_getLsbD_eq
  intro i hi
  have hmask : (0x0000F0#24).getLsbD i = decide (4 ≤ i ∧ i < 8) := by
    revert i
    decide
  rw [BitVec.getLsbD_and, frameWord_getLsbD, hmask]
  by_cases hnibble : 4 ≤ i ∧ i < 8
  · have hin : i - 4 < 4 := by omega
    have hadd : 4 + (i - 4) = i := by omega
    simp [cmdOf, hnibble, hin, hi, hadd]
  · have hout : i < 4 ∨ ¬ i - 4 < 4 := by omega
    obtain hlow | hhigh := hout
    · simp [hlow, hnibble]
    · simp [cmdOf, hhigh, hnibble]

/-- Two rows with the same match word have the same command value. -/
theorem matchWord_nibble_inj : ∀ c d : Nibble, c.setWidth 24 <<< 4 = d.setWidth 24 <<< 4 ↔ c = d := by decide

/-- Settles O3: under the mask the word is the command nibble, and the row of that nibble is the one that decodes. -/
theorem commandRowsSelectByMask : Obligations.CommandRowsSelectByMask := by
  intro f row hrow
  calc frameWord f &&& 0x0000F0#24 = row.matchWord
    _ ↔ cmdOf f = row.code := by rw [frameWord_and_mask, CommandRow.matchWord, matchWord_nibble_inj]
    _ ↔ frameOf row.code (requestOf f) = f := by rw [frameOf_requestOf_eq_iff, eq_comm]
    _ ↔ encode (row.build (requestOf f)) = .request24 f := by rw [encode_commandRow hrow, Code.request24.injEq]
    _ ↔ decodeFrame f = some (row.build (requestOf f)) := decodeFrame_eq_some_iff.symm

/-! ## The fields of a request -/

/-- The low nibble of a byte as a number. -/
theorem lowNibble_toNat (x : Byte) : (x.extractLsb' 0 4).toNat = x.toNat % 16 := by
  simp

/-- The high nibble of a byte as a number. -/
theorem highNibble_toNat (x : Byte) : (x.extractLsb' 4 4).toNat = x.toNat / 16 := by
  rw [BitVec.extractLsb'_toNat, Nat.shiftRight_eq_div_pow]
  omega

/-- Settles O4: the nibbles of bytes 0 and 1 as numbers; the LED requests are bits of byte 1 by definition. -/
theorem requestFieldPositions : Obligations.RequestFieldPositions := fun f =>
  ⟨lowNibble_toNat f[0], highNibble_toNat f[0], rfl, rfl, rfl, rfl, highNibble_toNat f[1], rfl⟩

/-- A field of the word is a field of the byte it lies in. -/
theorem frameWord_extract_byte0 (f : Frame) (start len : Nat) (h : start + len ≤ 8) :
    (frameWord f).extractLsb' start len = f[0].extractLsb' start len := by
  apply BitVec.eq_of_getLsbD_eq
  intro i hi
  have hbyte : start + i < 8 := by omega
  simp [BitVec.getLsbD_extractLsb', frameWord_getLsbD, hbyte]

theorem frameWord_extract_byte1 (f : Frame) (start len : Nat) (h : start + len ≤ 8) :
    (frameWord f).extractLsb' (8 + start) len = f[1].extractLsb' start len := by
  apply BitVec.eq_of_getLsbD_eq
  intro i hi
  have hnot : ¬ 8 + start + i < 8 := by omega
  have hbyte : 8 + start + i < 16 := by omega
  have hsub : 8 + start + i - 8 = start + i := by omega
  simp [BitVec.getLsbD_extractLsb', frameWord_getLsbD, hnot, hbyte, hsub]

theorem frameWord_extract_byte2 (f : Frame) : (frameWord f).extractLsb' 16 8 = f[2] := by
  apply BitVec.eq_of_getLsbD_eq
  intro i hi
  have hnot : ¬ 16 + i < 8 := by omega
  simp [frameWord_getLsbD, hnot, hi]

/-- R57: the word determines the frame. -/
@[simp] theorem wordFrame_frameWord (f : Frame) : wordFrame (frameWord f) = f := by
  have h0 : (frameWord f).extractLsb' 0 8 = f[0] := by
    simpa using frameWord_extract_byte0 f 0 8 (by decide)
  have h1 : (frameWord f).extractLsb' 8 8 = f[1] := by
    simpa using frameWord_extract_byte1 f 0 8 (by decide)
  simp only [wordFrame, h0, h1, frameWord_extract_byte2, frame_bytes]

/-- Settles O5: each field lies within one byte of the word. -/
theorem frameWordFields : Obligations.FrameWordFields := by
  refine fun f => ⟨?_, ?_, fun l => ?_, ?_, frameWord_extract_byte2 f, wordFrame_frameWord f⟩
  · exact frameWord_extract_byte0 f 0 4 (by decide)
  · exact frameWord_extract_byte0 f 4 4 (by decide)
  · rw [frameWord_getLsbD]
    cases l <;> rfl
  · exact frameWord_extract_byte1 f 4 4 (by decide)

/-! ## The bytes of a response -/

theorem lowByte_toNat (v : Half) : (lowByte v).toNat = v.toNat % 256 := by
  simp [lowByte]

theorem highByte_toNat (v : Half) : (highByte v).toNat = v.toNat / 256 := by
  rw [highByte, BitVec.extractLsb'_toNat, Nat.shiftRight_eq_div_pow]
  omega

theorem statusByte_toNat : ∀ (led : BitVec 4) (button : Bool), (statusByte led button).toNat = led.toNat + 16 * button.toNat := by
  decide

/-- Settles O6: the two bytes of each half-word and the status byte as numbers. -/
theorem responseByteLayout : Obligations.ResponseByteLayout := fun temp volt led button _ =>
  ⟨lowByte_toNat temp, highByte_toNat temp, lowByte_toNat volt, highByte_toNat volt, statusByte_toNat led button, rfl,
    lowByte_toNat _, highByte_toNat _⟩

/-- R87: `b6 | b7 << 8` puts a 16-bit value together again. -/
theorem lowByte_or_highByte (v : Half) : (lowByte v).setWidth 16 ||| ((highByte v).setWidth 16 <<< 8) = v := by
  apply BitVec.eq_of_getLsbD_eq
  intro i hi
  by_cases hlow : i < 8
  · simp [lowByte, highByte, hlow, hi]
  · have hhigh : i - 8 < 8 := by omega
    have hadd : 8 + (i - 8) = i := by omega
    simp [lowByte, highByte, hlow, hi, hhigh, hadd]

/-- R87: a packed response passes its receiver's check. -/
theorem responseCheck_packResponse (temp volt : Half) (led : BitVec 4) (button : Bool) (err : Byte) :
    responseCheck (packResponse temp volt led button err) = true :=
  beq_iff_eq.2 (lowByte_or_highByte _).symm

/-- Settles O7: the low and high bytes give a half-word back, and the status byte gives its fields back. -/
theorem responseReadsBack : Obligations.ResponseReadsBack := by
  intro temp volt led button err
  obtain ⟨hled, hbutton, -⟩ := statusByte_fields led button
  exact ⟨halfOf_bytes temp, halfOf_bytes volt, hled, hbutton, rfl, responseCheck_packResponse temp volt led button err⟩

end Sys2Proof
end

section
/-! PROOFS for 40_crc.md: the bit-serial and the table-driven engine, affinity, and the engines called by themselves. -/

namespace Sys2Proof.Machine

variable {w : Nat}

/-! ## The bit-serial register -/

@[simp] theorem crcSerial_nil (poly c : BitVec w) : crcSerial poly c [] = c := rfl

/-- A register fed some bits and then others. -/
theorem crcSerial_append (poly c : BitVec w) (as bs : List Bool) :
    crcSerial poly c (as ++ bs) = crcSerial poly (crcSerial poly c as) bs := List.foldl_append

/-- One bit fed to the register is one pass of the loop with the bit in the top place; the rest of the mixed-in word moves
up. -/
theorem crcShift_xor_word (poly c y : BitVec w) :
    crcShift poly (c ^^^ y) = crcSerial poly c [y.msb] ^^^ (y <<< 1) := by
  rw [crcShift, BitVec.msb_xor, BitVec.shiftLeft_xor_distrib]
  cases hbit : c.msb ^^ y.msb
  · simp only [crcSerial, List.foldl_cons, List.foldl_nil, hbit, if_neg Bool.false_ne_true]
  · simp only [crcSerial, List.foldl_cons, List.foldl_nil, hbit, if_true]
    rw [BitVec.xor_assoc, BitVec.xor_comm (y <<< 1), BitVec.xor_assoc]

/-- The bits that leave a word at the top in `n` shifts. -/
def shiftedOut (y : BitVec w) (n : Nat) : List Bool := (List.range n).map fun k => (y <<< k).msb

/-- R80: `n` passes over a register with a word mixed in feed it the word's top `n` bits. -/
theorem repeat_crcShift_xor_word (poly c y : BitVec w) (n : Nat) :
    Nat.repeat (crcShift poly) n (c ^^^ y) = crcSerial poly c (shiftedOut y n) ^^^ (y <<< n) := by
  induction n with
  | zero => simp [Nat.repeat, shiftedOut]
  | succ n ih =>
    have hbits : shiftedOut y (n + 1) = shiftedOut y n ++ [(y <<< n).msb] := by
      simp [shiftedOut, List.range_succ]
    rw [Nat.repeat, ih, crcShift_xor_word, hbits, crcSerial_append, ← BitVec.shiftLeft_add]

/-- The eight bits a byte in the top of the register feeds are its own, most significant first. -/
theorem shiftedOut_topByte (hw : 8 ≤ w) (x : Byte) : shiftedOut (x.setWidth w <<< (w - 8)) 8 = bitsMsbFirst x := by
  have hbit (k : Nat) (hk : k < 8) : (x.setWidth w <<< (w - 8) <<< k).msb = x.getLsbD (7 - k) := by
    have hlt : w - 1 < w := by omega
    have hge : ¬ w - 1 < w - 8 + k := by omega
    have hidx : w - 1 - (w - 8 + k) = 7 - k := by omega
    rw [← BitVec.shiftLeft_add, BitVec.msb_eq_getLsbD_last, BitVec.getLsbD_shiftLeft, BitVec.getLsbD_setWidth, hidx]
    have hin : 7 - k < w := by omega
    simp [hlt, hge, hin]
  calc shiftedOut (x.setWidth w <<< (w - 8)) 8
    _ = (List.range 8).map fun k => x.getLsbD (7 - k) :=
      List.map_congr_left fun k hk => hbit k (List.mem_range.1 hk)
    _ = bitsMsbFirst x := rfl

/-- R80: a byte enters a register of at least eight bits as its bits, most significant first. -/
theorem crcByte_eq_crcSerial (hw : 8 ≤ w) (poly c : BitVec w) (x : Byte) :
    crcByte poly c x = crcSerial poly c (bitsMsbFirst x) := by
  have hgone : x.setWidth w <<< (w - 8) <<< 8 = 0#w := by
    rw [← BitVec.shiftLeft_add, Nat.sub_add_cancel hw, BitVec.shiftLeft_eq_zero (Nat.le_refl w)]
  rw [crcByte, repeat_crcShift_xor_word, shiftedOut_topByte hw, hgone, BitVec.xor_zero]

/-- R80: the engine is the register fed the bits of its input. -/
theorem crc_eq_crcSerial (hw : 8 ≤ w) (poly init : BitVec w) (data : List Byte) :
    crc poly init data = crcSerial poly init (data.flatMap bitsMsbFirst) := by
  induction data generalizing init with
  | nil => rfl
  | cons x xs ih => rw [crc_cons, ih, List.flatMap_cons, crcSerial_append, crcByte_eq_crcSerial hw]

/-- Settles O10: both registers have at least eight bits. -/
theorem crcEnginesAreBitSerial : Obligations.CrcEnginesAreBitSerial := fun data =>
  ⟨crc_eq_crcSerial (by decide) _ _ data, crc_eq_crcSerial (by decide) _ _ data⟩

/-! ## The table-driven engine -/

/-- Passes over a register whose top bits are zero only shift it. -/
theorem repeat_crcShift_of_lt (poly c : BitVec w) (n : Nat) (hn : n ≤ w) (hc : c.toNat < 2 ^ (w - n)) :
    Nat.repeat (crcShift poly) n c = c <<< n := by
  induction n with
  | zero => simp [Nat.repeat]
  | succ n ih =>
    have hlt : c.toNat < 2 ^ (w - n) := Nat.lt_of_lt_of_le hc (Nat.pow_le_pow_right (by decide) (by omega))
    have hmsb : (c <<< n).msb = false := by
      have hidx : c.getLsbD (w - 1 - n) = false :=
        Nat.testBit_lt_two_pow (by rwa [Nat.sub_right_comm, Nat.sub_sub])
      rw [BitVec.msb_eq_getLsbD_last, BitVec.getLsbD_shiftLeft, hidx, Bool.and_false]
    rw [Nat.repeat, ih (by omega) hlt, crcShift, hmsb, if_neg Bool.false_ne_true, ← BitVec.shiftLeft_add]

/-- R80: the byte of CRC8 meets the whole register. -/
theorem crcByte8_eq_table (poly c x : Byte) : crcByte poly c x = crcByte poly 0 (c ^^^ x) := by
  simp [crcByte]

/-- A 16-bit register is its low byte and its high byte in their places. -/
theorem half_eq_low_xor_high (c : Half) :
    c = (c.setWidth 8).setWidth 16 ^^^ (((c >>> 8).setWidth 8).setWidth 16 <<< 8) := by
  apply BitVec.eq_of_getLsbD_eq
  intro i hi
  by_cases hlow : i < 8
  · simp [hlow, hi]
  · have hhigh : i - 8 < 8 := by omega
    have hadd : 8 + (i - 8) = i := by omega
    simp [hlow, hi, hhigh, hadd]

/-- A zero byte only moves the low byte of the register up. -/
theorem crcByte_low_zero (poly : Half) (low : Byte) : crcByte poly (low.setWidth 16) 0 = low.setWidth 16 <<< 8 := by
  have hlt : (low.setWidth 16).toNat < 2 ^ (16 - 8) := by
    have := low.isLt
    rw [BitVec.toNat_setWidth]
    omega
  have hreg : low.setWidth 16 ^^^ ((0 : Byte).setWidth 16 <<< 8) = low.setWidth 16 := by simp
  rw [crcByte, hreg, repeat_crcShift_of_lt poly _ 8 (by decide) hlt]

/-- A byte meets the high byte of the register. -/
theorem crcByte_high (poly : Half) (high x : Byte) :
    crcByte poly (high.setWidth 16 <<< 8) x = crcByte poly 0 (high ^^^ x) := by
  simp [crcByte, BitVec.setWidth_xor, BitVec.shiftLeft_xor_distrib]

theorem setWidth_low_shiftLeft (c : Half) : (c.setWidth 8).setWidth 16 <<< 8 = c <<< 8 := by
  apply BitVec.eq_of_getLsbD_eq
  intro i hi
  have hin : i - 8 < 8 := by omega
  have hin16 : i - 8 < 16 := by omega
  simp [hi, hin, BitVec.getLsbD_eq_getElem hin16]

/-- R80: the byte of CRC16 meets the high byte of the register; the low byte only moves up. -/
theorem crcByte16_eq_table (poly c : Half) (x : Byte) :
    crcByte poly c x = (c <<< 8) ^^^ crcByte poly 0 ((c >>> 8).setWidth 8 ^^^ x) := by
  calc crcByte poly c x
    _ = crcByte poly ((c.setWidth 8).setWidth 16 ^^^ (((c >>> 8).setWidth 8).setWidth 16 <<< 8)) (0 ^^^ x) := by
      rw [← half_eq_low_xor_high, BitVec.ofNat_eq_ofNat, BitVec.zero_xor]
    _ = (c <<< 8) ^^^ crcByte poly 0 ((c >>> 8).setWidth 8 ^^^ x) := by
      rw [crcByte_xor, crcByte_low_zero, crcByte_high, setWidth_low_shiftLeft]

/-- Settles O11: byte by byte, the table entry of the top byte replaces the eight passes. -/
theorem crcEnginesAreTableDriven : Obligations.CrcEnginesAreTableDriven := by
  intro data
  constructor
  · simp only [crc8, crc, ← crcByte8_eq_table]
  · simp only [crc16, crc, ← crcByte16_eq_table]

/-! ## Affinity -/

/-- R85: the engine is linear in its initial value and its input together. -/
theorem crc_xor (poly init init' : BitVec w) (a b : List Byte) (h : a.length = b.length) :
    crc poly (init ^^^ init') (List.zipWith (· ^^^ ·) a b) = crc poly init a ^^^ crc poly init' b := by
  induction a generalizing b init init' with
  | nil =>
    obtain rfl := List.length_eq_zero_iff.1 h.symm
    rfl
  | cons x xs ih =>
    cases b with
    | nil => cases h
    | cons y ys =>
      rw [List.zipWith_cons_cons, crc_cons, crc_cons, crc_cons, crcByte_xor]
      exact ih _ _ _ (Nat.succ.inj h)

/-- The third term cancels the second initial value. -/
theorem crc_affine (poly init : BitVec w) (a b : List Byte) (h : a.length = b.length) :
    crc poly init (List.zipWith (· ^^^ ·) a b) =
      crc poly init a ^^^ crc poly init b ^^^ crc poly init (List.replicate a.length 0x00#8) := by
  have hzeros : List.zipWith (· ^^^ ·) b (List.replicate a.length 0x00#8) = b := by
    rw [h, ← List.map_const, List.zipWith_map_right]
    simp
  have hb : crc poly 0 b = crc poly init b ^^^ crc poly init (List.replicate a.length 0x00#8) := by
    rw [← crc_xor _ _ _ _ _ (by rw [List.length_replicate, h]), BitVec.xor_self, hzeros]
    rfl
  calc crc poly init (List.zipWith (· ^^^ ·) a b)
    _ = crc poly (init ^^^ 0) (List.zipWith (· ^^^ ·) a b) := by rw [BitVec.ofNat_eq_ofNat, BitVec.xor_zero]
    _ = crc poly init a ^^^ crc poly 0 b := crc_xor _ _ _ _ _ h
    _ = _ := by rw [hb, BitVec.xor_assoc]

/-- Settles O12: each engine is affine because `crc` is linear in its initial value and its input together. -/
theorem crcEnginesAreAffine : Obligations.CrcEnginesAreAffine := fun a b h =>
  ⟨crc_affine _ _ a b h, crc_affine _ _ a b h⟩

/-- Settles O14: an engine called by itself answers its value. -/
theorem crcCallsWriteNoState : Obligations.CrcCallsWriteNoState := fun _ _ => ⟨rfl, rfl⟩

end Sys2Proof.Machine
end

section
/-! PROOFS for 41_receiver.md section 3: the test of a request frame, single-bit errors, and the frames of a script. -/

namespace Sys2Proof.Machine

/-! ## The test -/

/-- R94: the two comparisons. -/
theorem validFrame_iff {c : Config} {f : Frame} :
    validFrame c f = true ↔ addrOf f = c.devAddr ∧ crc8 [f[0], f[1]] = crcbOf f := by
  simp [validFrame]

/-- R94: the address comparison as arithmetic on byte 0. -/
theorem addrOf_eq_devAddr_iff {c : Config} {f : Frame} : addrOf f = c.devAddr ↔ f[0].toNat % 16 = c.params.devAddr := by
  rw [← BitVec.toNat_inj, addrOf, lowNibble_toNat, Config.devAddr_toNat]

/-- R94: nothing of the configuration is read but DEV_ADDR. -/
theorem validFrame_congr {c c' : Config} (h : c.params.devAddr = c'.params.devAddr) (f : Frame) :
    validFrame c f = validFrame c' f := by
  simp only [validFrame, Config.devAddr, h]

/-- Settles O15: the address comparison on byte 0, and the CRC comparison as it stands. -/
theorem validFrameTest : Obligations.ValidFrameTest := by
  refine ⟨fun c f => ?_, fun _ _ f h => validFrame_congr h f⟩
  rw [validFrame_iff, addrOf_eq_devAddr_iff]
  rfl

/-- Settles O16: DEV_ADDR is at least 1. -/
theorem addressZeroNeverMatches : Obligations.AddressZeroNeverMatches := by
  intro c f haddr
  rw [← Bool.not_eq_true, validFrame_iff]
  rintro ⟨hmatch, -⟩
  have hzero : c.params.devAddr = 0 := by rw [← Config.devAddr_toNat, ← hmatch, haddr, BitVec.toNat_ofNat, Nat.zero_mod]
  exact absurd c.one_le_devAddr (by omega)

/-! ## Single-bit errors -/

/-- R85: an error added to bytes 0 and 1 adds its own CRC from an all-zero register. -/
theorem crc8_pair_xor (b0 b1 e0 e1 : Byte) :
    crc8 [b0 ^^^ e0, b1 ^^^ e1] = crc8 [b0, b1] ^^^ crc 0x31#8 0 [e0, e1] :=
  crc_xor 0x31#8 0xFF#8 0 [b0, b1] [e0, e1] rfl

/-- R85: no single bit of the two bytes has a zero CRC. -/
theorem crc_singleBit_ne_zero : ∀ k < 8, crc 0x31#8 0 [1#8 <<< k, 0x00#8] ≠ 0 ∧ crc 0x31#8 0 [0x00#8, 1#8 <<< k] ≠ 0 := by
  decide +kernel

/-- An error whose own CRC is not zero is found, wherever the address comparison comes out. -/
theorem validFrame_xor_eq_false {c : Config} {b0 b1 b2 e0 e1 : Byte} (hv : validFrame c #v[b0, b1, b2] = true)
    (he : crc 0x31#8 0 [e0, e1] ≠ 0) : validFrame c #v[b0 ^^^ e0, b1 ^^^ e1, b2] = false := by
  obtain ⟨-, hcrc⟩ := validFrame_iff.1 hv
  rw [← Bool.not_eq_true, validFrame_iff]
  rintro ⟨-, hcrc'⟩
  have hsame : crc8 [b0, b1] ^^^ crc 0x31#8 0 [e0, e1] = crc8 [b0, b1] ^^^ 0 := by
    rw [← crc8_pair_xor, BitVec.ofNat_eq_ofNat, BitVec.xor_zero]
    exact hcrc'.trans hcrc.symm
  exact he ((BitVec.xor_right_inj _).1 hsame)

/-- Settles O13: a flipped bit adds a CRC that is not zero; another crc byte is not the one the CRC gives. -/
theorem singleBitErrorsAreDiscarded : Obligations.SingleBitErrorsAreDiscarded := by
  refine fun c b0 b1 b2 hv => ⟨fun k hk => ?_, fun x hx => ?_⟩
  · obtain ⟨hbyte0, hbyte1⟩ := crc_singleBit_ne_zero k hk
    have h0 := validFrame_xor_eq_false hv hbyte0
    have h1 := validFrame_xor_eq_false hv hbyte1
    rw [BitVec.xor_zero] at h0 h1
    exact ⟨h0, h1⟩
  · obtain ⟨-, hcrc⟩ := validFrame_iff.1 hv
    rw [← Bool.not_eq_true, validFrame_iff]
    rintro ⟨-, hcrc'⟩
    exact hx (hcrc'.symm.trans hcrc)

/-! ## The frames of a script -/

/-- R71: `c << 4 | a` is the byte with nibbles `c` and `a`. -/
theorem scriptByte0_eq_joinNibbles : ∀ a c : Nibble, scriptByte0 a c = joinNibbles c a := by decide

/-- The frame the pseudo-event `FRAME a c l` delivers. -/
def scriptFrame (a c : Nibble) (l : Byte) : Frame := #v[scriptByte0 a c, l, crc8 [scriptByte0 a c, l]]

/-- R71: FRAME delivers the first byte and then the other two. -/
theorem frameEvents_eq (a c : Nibble) (l : Byte) :
    frameEvents a c l =
      [.rxDone [(scriptFrame a c l)[0]], .rxDone [(scriptFrame a c l)[1], (scriptFrame a c l)[2]]] := rfl

@[simp] theorem cmdOf_scriptFrame (a c : Nibble) (l : Byte) : cmdOf (scriptFrame a c l) = c :=
  calc cmdOf (scriptFrame a c l)
    _ = (scriptByte0 a c).extractLsb' 4 4 := rfl
    _ = c := by rw [scriptByte0_eq_joinNibbles, joinNibbles_high]

@[simp] theorem addrOf_scriptFrame (a c : Nibble) (l : Byte) : addrOf (scriptFrame a c l) = a :=
  calc addrOf (scriptFrame a c l)
    _ = (scriptByte0 a c).extractLsb' 0 4 := rfl
    _ = a := by rw [scriptByte0_eq_joinNibbles, joinNibbles_low]

/-- R71: a script frame carries its own CRC, so it is valid for the device it is sent to. -/
theorem validFrame_scriptFrame (c : Config) (k : Nibble) (l : Byte) : validFrame c (scriptFrame c.devAddr k l) = true :=
  validFrame_iff.2 ⟨addrOf_scriptFrame _ _ _, rfl⟩

/-- Settles O9: the frame is `scriptFrame`. -/
theorem scriptFrameIsValid : Obligations.ScriptFrameIsValid := fun c k l =>
  ⟨scriptFrame c.devAddr k l, frameEvents_eq _ _ _, validFrame_scriptFrame c k l, cmdOf_scriptFrame _ _ _, rfl⟩

end Sys2Proof.Machine
end

section
/-! PROOFS for 42_dispatcher.md: the command rows, by themselves and as the end of a completed frame. -/

namespace Sys2Proof.Machine

/-! ## What a dispatch leaves -/

@[simp] theorem ledAfter_update {f : Frame} (led : BitVec 4) (h : cmdOf f = cmdUpdateOutputs) : ledAfter f led = ledsOf f :=
  if_pos h

@[simp] theorem ledAfter_other {f : Frame} (led : BitVec 4) (h : cmdOf f ≠ cmdUpdateOutputs) : ledAfter f led = led :=
  if_neg h

@[simp] theorem errAfter_sendData {f : Frame} (c : ErrCodes) (err : Byte) (h : cmdOf f = cmdSendData) :
    errAfter c f err = err := if_pos (.inl h)

@[simp] theorem errAfter_errorReset {f : Frame} (c : ErrCodes) (err : Byte) (h : cmdOf f = cmdErrorReset) :
    errAfter c f err = c.noError := by
  simp [errAfter, h]

theorem errAfter_unrecognised {f : Frame} (c : ErrCodes) (err : Byte) (h0 : cmdOf f ≠ cmdSendData)
    (h1 : cmdOf f ≠ cmdUpdateOutputs) (h2 : cmdOf f ≠ cmdErrorReset) : errAfter c f err = c.incorrectCommand := by
  simp [errAfter, h0, h1, h2]

/-- R110: the command value of a frame built from its parts selects the operation. -/
theorem dispatch_frameOf (c : Nibble) (r : Request) (s : State) :
    dispatch (frameOf c r) s =
      if c = cmdSendData then sendData (frameOf c r) s
      else if c = cmdUpdateOutputs then updateOutputs (frameOf c r) s
      else if c = cmdErrorReset then errorReset (frameOf c r) s
      else unrecognised (frameOf c r) s := by
  rw [dispatch, cmdOf_frameOf]

/-! ## The command rows -/

/-- The meaning of every command row, through the frame it encodes to: a valid frame is dispatched, another does nothing
(log 8). -/
theorem exec_command {i : Instr} {f : Frame} (h : encode i = .request24 f) (s : State) :
    exec i s = .next (if validFrame s.cfg f then dispatch f s else s) := by
  cases i <;> simp only [encode, Code.request24.injEq, reduceCtorEq] at h
  all_goals
    subst h
    rw [dispatch_frameOf]
    rfl

theorem exec_valid {i : Instr} {f : Frame} {s : State} (h : encode i = .request24 f) (hv : validFrame s.cfg f = true) :
    exec i s = .next (dispatch f s) := by
  rw [exec_command h, if_pos hv]

/-- Settles O22: `exec_command` at a frame that is not valid. -/
theorem invalidCommandRowsDoNothing : Obligations.InvalidCommandRowsDoNothing := by
  intro i f s h hv
  rw [exec_command h, hv, if_neg Bool.false_ne_true]

/-- The SetLine actions of a frame built from its parts. -/
theorem setLines_frameOf (c : Nibble) (r : Request) :
    setLines (frameOf c r) =
      [.setLine .line1 (r.leds.getLsbD 0), .setLine .line2 (r.leds.getLsbD 1), .setLine .line3 (r.leds.getLsbD 2),
        .setLine .line4 (r.leds.getLsbD 3)] := by
  simp only [setLines, Line.all, List.map, ← ledsOf_getLsbD_bit, ledsOf_frameOf, Line.bit]

/-- Settles O19: `updateOutputs_eq` says what the row does, and the lines are the latch. -/
theorem updateOutputsWritesEachLane : Obligations.UpdateOutputsWritesEachLane := by
  intro s r hv
  refine ⟨updateOutputs (frameOf cmdUpdateOutputs r) s, ?_, ?_, fun l => ?_⟩
  · rw [exec_valid (f := frameOf cmdUpdateOutputs r) rfl hv, dispatch_frameOf]
    rfl
  · rw [updateOutputs_eq, ledsOf_frameOf, setLines_frameOf]
  · rw [updateOutputs_eq]
    exact ledsOf_getLsbD_bit (frameOf cmdUpdateOutputs r) l

/-! ## The end of a completed frame -/

section Completed

variable {s : State} {f : Frame} {off : Nat} (hs : s.started = true) (ha : s.linkRx = .armed off 2)
  (h0 : s.rxbuf[0] = f[0])

include hs ha h0

theorem exec_remainder_invalid (hv : validFrame s.cfg f = false) :
    exec (.rxDoneRemainder [f[1], f[2]]) s = .next (startReceive s) := by
  have hcases := remainder_frame_cases f s h0
  simp only [hv, Bool.false_eq_true, true_and, false_and, or_false] at hcases
  exact (execRxDoneRemainder_eq s _ _ off hs ha).trans hcases

theorem exec_remainder_overlap (hv : validFrame s.cfg f = true) (hb : s.txBusy = true) :
    exec (.rxDoneRemainder [f[1], f[2]]) s = .next (markFault .txOverlap s) := by
  have hcases := remainder_frame_cases f s h0
  simp only [hv, hb, Bool.true_eq_false, true_and, false_and, or_false, false_or] at hcases
  exact (execRxDoneRemainder_eq s _ _ off hs ha).trans hcases

theorem exec_remainder_answered (hv : validFrame s.cfg f = true) (hb : s.txBusy = false) :
    exec (.rxDoneRemainder [f[1], f[2]]) s = .next (answered f s) := by
  have hcases := remainder_frame_cases f s h0
  simp only [hv, hb, Bool.true_eq_false, Bool.false_eq_true, true_and, false_and, false_or] at hcases
  exact (execRxDoneRemainder_eq s _ _ off hs ha).trans hcases

end Completed

/-! ## The responses among the actions -/

@[simp] theorem sent_nil : sent [] = [] := rfl

@[simp] theorem sent_append (as bs : List Action) : sent (as ++ bs) = sent as ++ sent bs := List.filterMap_append

@[simp] theorem sent_tx_cons (r : Response) (as : List Action) : sent (.tx r :: as) = r :: sent as := rfl

@[simp] theorem sent_armRx_cons (off len : Nat) (as : List Action) : sent (.armRx off len :: as) = sent as := rfl

@[simp] theorem sent_abortRx_cons (as : List Action) : sent (.abortRx :: as) = sent as := rfl

/-- R112: a dispatch sends nothing. -/
@[simp] theorem sent_dispatchActions (f : Frame) : sent (dispatchActions f) = [] := by
  unfold dispatchActions
  split <;> rfl

/-- R115: an answered frame sends one response, which TXBUF holds. -/
@[simp] theorem sent_answered (f : Frame) (s : State) :
    sent (answered f s).actions = sent s.actions ++ [(answered f s).txbuf] := by
  simp [answered]

/-- R127: the response is packed from the state the frame leaves. -/
theorem answered_txbuf (f : Frame) (s : State) : (answered f s).txbuf = (answered f s).response := rfl

/-- Settles O20: the row writes NONE, and the response of a completed frame is packed after that. -/
theorem errorResetClearsLatch : Obligations.ErrorResetClearsLatch := by
  intro s r hv
  have hcmd : cmdOf (frameOf cmdErrorReset r) = cmdErrorReset := cmdOf_frameOf _ _
  have herr := errAfter_errorReset s.cfg.errCodes s.err hcmd
  refine ⟨?_, fun off hs ha hb h0 => ⟨_, exec_remainder_answered hs ha h0 hv hb, herr, ?_, herr, sent_answered _ s⟩⟩
  · rw [exec_valid (f := frameOf cmdErrorReset r) rfl hv, dispatch_frameOf]
    rfl
  · have hne : cmdOf (frameOf cmdErrorReset r) ≠ cmdUpdateOutputs := hcmd.trans_ne cmdErrorReset_ne_updateOutputs
    exact ledAfter_other s.led hne

/-- R114 for one row: its command value is none of the three named ones. -/
theorem unrecognisedRow_latches {c : Nibble} {i : Instr} {r : Request} {s : State} (hi : encode i = .request24 (frameOf c r))
    (h0 : c ≠ cmdSendData) (h1 : c ≠ cmdUpdateOutputs) (h2 : c ≠ cmdErrorReset)
    (hv : validFrame s.cfg (frameOf c r) = true) :
    exec i s = .next { s with err := s.cfg.errCodes.incorrectCommand } ∧
      (∀ off, s.started = true → s.linkRx = .armed off 2 → s.txBusy = false → s.rxbuf[0] = (frameOf c r)[0] →
        ∃ t, exec (.rxDoneRemainder [(frameOf c r)[1], (frameOf c r)[2]]) s = .next t ∧
          t.err = s.cfg.errCodes.incorrectCommand ∧ t.led = s.led ∧ t.txbuf[5] = s.cfg.errCodes.incorrectCommand ∧
          sent t.actions = sent s.actions ++ [t.txbuf]) := by
  have hcmd : cmdOf (frameOf c r) = c := cmdOf_frameOf c r
  have herr := errAfter_unrecognised s.cfg.errCodes s.err (hcmd.trans_ne h0) (hcmd.trans_ne h1) (hcmd.trans_ne h2)
  have hled := ledAfter_other s.led (hcmd.trans_ne h1)
  refine ⟨?_, fun off hs ha hb hbyte => ⟨_, exec_remainder_answered hs ha hbyte hv hb, herr, hled, herr, sent_answered _ s⟩⟩
  rw [exec_valid hi hv, dispatch_frameOf, if_neg h0, if_neg h1, if_neg h2]
  rfl

/-- Settles O21: each of the 13 rows encodes with its own value, which is none of the three named ones. -/
theorem unrecognisedCommandsLatch : Obligations.UnrecognisedCommandsLatch := by
  intro row hrow s r hv
  have hown : encode (row.2 r) = .request24 (frameOf row.1 r) ∧ row.1 ≠ cmdSendData ∧ row.1 ≠ cmdUpdateOutputs ∧
      row.1 ≠ cmdErrorReset := by
    simp only [List.mem_cons, List.not_mem_nil, or_false] at hrow
    rcases hrow with rfl | rfl | rfl | rfl | rfl | rfl | rfl | rfl | rfl | rfl | rfl | rfl | rfl
    all_goals exact ⟨rfl, by decide, by decide, by decide⟩
  obtain ⟨hi, h0, h1, h2⟩ := hown
  exact unrecognisedRow_latches hi h0 h1 h2 hv

/-- Settles O23: the decoded instruction encodes to the completed frame, so its row dispatches that frame. -/
theorem remainderRunsDecodedCommand : Obligations.RemainderRunsDecodedCommand := by
  intro s d1 d2 off hs ha hb hv
  obtain ⟨i, hdecode, hencode⟩ := decodeFrame_isSome #v[s.rxbuf[0], d1, d2]
  refine ⟨i, _, _, decode_frameBytes hdecode [], exec_valid hencode hv,
    exec_remainder_answered (f := #v[s.rxbuf[0], d1, d2]) hs ha rfl hv hb, ?_⟩
  rw [dispatch_eq]
  exact ⟨rfl, rfl, rfl, rfl⟩

end Sys2Proof.Machine
end

section
/-! PROOFS for 41_receiver.md sections 2 to 5: START, the outcomes of the remainder phase, and the receiver's model faults. -/

namespace Sys2Proof.Machine

/-! ## START -/

/-- R91: the receive is re-armed. -/
theorem stateA_startReceive (s : State) : stateA (startReceive s) := by
  rw [startReceive_eq]
  exact ⟨rfl, rfl, rfl, rfl⟩

/-- R101: re-arming a waiting, started receiver writes nothing. -/
theorem startReceive_of_stateA {s : State} (ha : stateA s) (hs : s.started = true) :
    startReceive s = { s with actions := s.actions ++ [.armRx 0 1] } := by
  obtain ⟨hc, ht, hb, hl⟩ := ha
  rw [startReceive_eq, hc, ht, hb, hl, hs]

/-- Settles O24: START is `startReceive`. -/
theorem startRearmsReceiver : Obligations.StartRearmsReceiver := fun s =>
  ⟨startReceive s, rfl, stateA_startReceive s, rfl, rfl, rfl⟩

/-- R101: a START taken as a whole step by a waiting, started receiver. -/
theorem react_start_of_stateA {s : State} (ha : stateA s) (hs : s.started = true) :
    react .start s = .next { s with actions := [.armRx 0 1], result := none } :=
  congrArg Host.Outcome.next (startReceive_of_stateA (s := beginEvent s.inbox s) ha hs)

/-- Settles O25: the second START finds a waiting, started receiver, whose last step was the same START. -/
theorem startIsIdempotent : Obligations.StartIsIdempotent := by
  refine ⟨fun s => ?_, fun s ha hs => react_start_of_stateA ha hs⟩
  have hfirst : react .start s = .next (startReceive (beginEvent s.inbox s)) := rfl
  have hsecond : react .start (startReceive (beginEvent s.inbox s)) = .next (startReceive (beginEvent s.inbox s)) :=
    react_start_of_stateA (stateA_startReceive _) rfl
  rw [runEvents_cons _ hfirst, runEvents_cons _ hsecond, runEvents_cons _ hfirst]

/-! ## The remainder phase -/

/-- The command value of a frame as a number. -/
theorem cmdOf_eq_iff {f : Frame} {c : Nibble} : cmdOf f = c ↔ f[0].toNat / 16 = c.toNat := by
  rw [← BitVec.toNat_inj, cmdOf, highNibble_toNat]

/-- Settles O27: `answered`, with the command value as a number. -/
theorem remainderAnswersValidFrame : Obligations.RemainderAnswersValidFrame := by
  intro s d1 d2 off hs ha hb hv cmd led err response
  let f : Frame := #v[s.rxbuf[0], d1, d2]
  have hsend : cmdOf f = cmdSendData ↔ cmd = 0 := cmdOf_eq_iff
  have hupdate : cmdOf f = cmdUpdateOutputs ↔ cmd = 1 := cmdOf_eq_iff
  have hreset : cmdOf f = cmdErrorReset ↔ cmd = 2 := cmdOf_eq_iff
  have hled : ledAfter f s.led = led := by
    simp only [ledAfter, hupdate]
    rfl
  have herr : errAfter s.cfg.errCodes f s.err = err := by
    simp only [errAfter, hsend, hupdate, hreset]
    rfl
  have hactions : dispatchActions f = if cmd = 1 then
      [.setLine .line1 (d1.getLsbD 0), .setLine .line2 (d1.getLsbD 1), .setLine .line3 (d1.getLsbD 2),
        .setLine .line4 (d1.getLsbD 3)] else [] := by
    simp only [dispatchActions, hupdate]
    rfl
  calc exec (.rxDoneRemainder [d1, d2]) s
    _ = .next (answered f s) := exec_remainder_answered (f := f) hs ha rfl hv hb
    _ = _ := by rw [answered, hled, herr, hactions, hs]

/-- Settles O28: the remainder phase of an invalid frame is `startReceive`. -/
theorem invalidFrameIsDiscarded : Obligations.InvalidFrameIsDiscarded := by
  intro s d1 d2 off hs ha hv
  calc exec (.rxDoneRemainder [d1, d2]) s
    _ = .next (startReceive s) := exec_remainder_invalid (f := #v[s.rxbuf[0], d1, d2]) hs ha rfl hv
    _ = _ := by rw [startReceive_eq, hs]

/-- Settles O49: a model fault of the response answers the state the step started from, marked. -/
theorem transmitOverlapUndoesStep : Obligations.TransmitOverlapUndoesStep := fun s d1 d2 _ hs ha hb hv =>
  exec_remainder_overlap (f := #v[s.rxbuf[0], d1, d2]) hs ha rfl hv hb

theorem stateA_answered (f : Frame) (s : State) : stateA (answered f s) := ⟨rfl, rfl, rfl, rfl⟩

/-- Settles O29: a discarded and an answered frame both re-arm as their last action. -/
theorem rearmIsUnconditional : Obligations.RearmIsUnconditional := by
  intro s d1 d2 off hs ha hoverlap
  cases hv : validFrame s.cfg #v[s.rxbuf[0], d1, d2] with
  | false =>
    refine ⟨_, exec_remainder_invalid (f := #v[s.rxbuf[0], d1, d2]) hs ha rfl hv, stateA_startReceive s, rfl, ?_⟩
    rw [startReceive_actions, List.getLast?_concat]
  | true =>
    have hb : s.txBusy = false := by simpa [hv] using hoverlap
    refine ⟨_, exec_remainder_answered (f := #v[s.rxbuf[0], d1, d2]) hs ha rfl hv hb, stateA_answered _ s, rfl, ?_⟩
    simp [answered]

/-! ## The class of a frame -/

/-- R65: a frame is valid exactly when its class is none of the two discards. -/
theorem validFrame_iff_classify {c : Config} {f : Frame} :
    validFrame c f = true ↔ classify c f ≠ .discardAddress ∧ classify c f ≠ .discardCrc := by
  constructor
  · intro hv
    rw [classify_of_valid hv]
    split_ifs <;> exact ⟨nofun, nofun⟩
  · rintro ⟨haddress, hcrc⟩
    by_contra hv
    obtain h | h := classify_of_invalid (Bool.not_eq_true _ ▸ hv)
    · exact haddress h
    · exact hcrc h

/-- R65: the command a valid frame's class stands for. -/
theorem classify_eq_iff_of_valid {c : Config} {f : Frame} (hv : validFrame c f = true) :
    (classify c f = .validSendData ↔ cmdOf f = cmdSendData) ∧
      (classify c f = .validUpdateOutputs ↔ cmdOf f = cmdUpdateOutputs) ∧
      (classify c f = .validErrorReset ↔ cmdOf f = cmdErrorReset) := by
  rw [classify_of_valid hv]
  by_cases h0 : cmdOf f = cmdSendData
  · simp [h0, cmdUpdateOutputs_ne_sendData.symm, cmdErrorReset_ne_sendData.symm]
  by_cases h1 : cmdOf f = cmdUpdateOutputs
  · simp [h1, cmdErrorReset_ne_updateOutputs.symm]
  by_cases h2 : cmdOf f = cmdErrorReset
  · simp [h2]
  · simp [h0, h1, h2]

/-- R62, R142: two valid frames of one class, with the same LED bits if they are UPDATE_OUTPUTS, are answered alike. -/
theorem answered_of_classify_eq {f g : Frame} {s : State} (hf : validFrame s.cfg f = true) (hg : validFrame s.cfg g = true)
    (hclass : classify s.cfg f = classify s.cfg g)
    (hleds : classify s.cfg f = .validUpdateOutputs → ledsOf f = ledsOf g) : answered f s = answered g s := by
  obtain ⟨hfsend, hfupdate, hfreset⟩ := classify_eq_iff_of_valid hf
  obtain ⟨hgsend, hgupdate, hgreset⟩ := classify_eq_iff_of_valid hg
  rw [hfupdate] at hleds
  rw [hclass] at hfsend hfupdate hfreset
  have hsend : cmdOf f = cmdSendData ↔ cmdOf g = cmdSendData := hfsend.symm.trans hgsend
  have hupdate : cmdOf f = cmdUpdateOutputs ↔ cmdOf g = cmdUpdateOutputs := hfupdate.symm.trans hgupdate
  have hreset : cmdOf f = cmdErrorReset ↔ cmdOf g = cmdErrorReset := hfreset.symm.trans hgreset
  have hled : ledAfter f s.led = ledAfter g s.led := by
    simp only [ledAfter, ← hupdate]
    split
    next h => exact hleds h
    next => rfl
  have herr : errAfter s.cfg.errCodes f s.err = errAfter s.cfg.errCodes g s.err := by
    simp only [errAfter, hsend, hupdate, hreset]
  have hactions : dispatchActions f = dispatchActions g := by
    simp only [dispatchActions, ← hupdate]
    split
    next h => simp only [setLines, ledReq_of_ledsOf (hleds h)]
    next => rfl
  simp only [answered, hled, herr, hactions]

/-- The state in which the first byte of a frame is in RXBUF. -/
def received (f : Frame) (s : State) : State := { s with rxbuf := #v[f[0], 0x00#8, 0x00#8] }

/-- R95: discarding a frame forgets its first byte too. -/
theorem exec_received_invalid {s : State} {f : Frame} {off : Nat} (hs : s.started = true) (ha : s.linkRx = .armed off 2)
    (hv : validFrame s.cfg f = false) : exec (.rxDoneRemainder [f[1], f[2]]) (received f s) = .next (startReceive s) := by
  have hforget : startReceive (received f s) = startReceive s := by rw [startReceive_eq, startReceive_eq, received]
  rw [exec_remainder_invalid (s := received f s) (f := f) hs ha rfl hv, hforget]

theorem exec_received_answered {s : State} {f : Frame} {off : Nat} (hs : s.started = true) (ha : s.linkRx = .armed off 2)
    (hv : validFrame s.cfg f = true) (hb : s.txBusy = false) :
    exec (.rxDoneRemainder [f[1], f[2]]) (received f s) = .next (answered f s) :=
  exec_remainder_answered (s := received f s) (f := f) hs ha rfl hv hb

/-- Settles O17: frames of one class are both discarded, which forgets the received bytes, or both answered, alike. -/
theorem frameClassDecidesOutcome : Obligations.FrameClassDecidesOutcome := by
  intro s f g off hs ha hclass hleds hoverlap
  have hvalid : validFrame s.cfg f = validFrame s.cfg g := by
    rw [Bool.eq_iff_iff, validFrame_iff_classify, validFrame_iff_classify, hclass]
  cases hf : validFrame s.cfg f with
  | false =>
    exact (exec_received_invalid hs ha hf).trans (exec_received_invalid hs ha (hvalid.symm.trans hf)).symm
  | true =>
    have hg : validFrame s.cfg g = true := hvalid.symm.trans hf
    have hb : s.txBusy = false := by simpa [hf] using hoverlap
    calc exec (.rxDoneRemainder [f[1], f[2]]) (received f s)
      _ = .next (answered f s) := exec_received_answered hs ha hf hb
      _ = .next (answered g s) := by rw [answered_of_classify_eq hf hg hclass hleds]
      _ = exec (.rxDoneRemainder [g[1], g[2]]) (received g s) := (exec_received_answered hs ha hg hb).symm

/-! ## Model faults of an event -/

/-- R32: an event that needs STARTED raises EVENT_BEFORE_START without it. -/
theorem afterStart_of_not_started {s : State} (hs : s.started = false) (act : State → Outcome) :
    afterStart s act = .next (markFault .eventBeforeStart s) := by
  rw [afterStart, hs, if_neg Bool.false_ne_true, raiseModelFault]

theorem afterStart_of_started {s : State} (hs : s.started = true) (act : State → Outcome) : afterStart s act = act s :=
  if_pos hs

/-- R99: both phases of a receive raise the precondition that fails. -/
theorem exec_rxDone_of_precondition {s : State} {d : List Byte} {k : ModelFaultKind} (h : rxDonePrecondition s d = some k) :
    exec (.rxDoneFirst d) s = .next (markFault k s) ∧ exec (.rxDoneRemainder d) s = .next (markFault k s) := by
  simp only [exec, execRxDoneFirst, execRxDoneRemainder, h, raiseModelFault, and_self]

/-- Settles O47: the STARTED check comes first in every listed row. -/
theorem eventsBeforeStartAreMarked : Obligations.EventsBeforeStartAreMarked := by
  intro s hs i hi
  have hpre (d : List Byte) : rxDonePrecondition s d = some .eventBeforeStart := if_pos hs
  rcases hi with ⟨d, rfl | rfl⟩ | rfl | rfl | ⟨k, rfl⟩ | ⟨x, rfl⟩ | rfl
  · exact (exec_rxDone_of_precondition (hpre d)).1
  · exact (exec_rxDone_of_precondition (hpre d)).2
  all_goals
    simp only [exec, execTickWait, execTickInProgress, execFaultRecognised, execFaultOther, execTxDone,
      afterStart_of_not_started hs]
    rfl

/-- Settles O48: the check of the armed length comes before the phase's own work. -/
theorem unarmedDeliveryIsMarked : Obligations.UnarmedDeliveryIsMarked := by
  intro s d hs hunarmed
  obtain ⟨hnot, -⟩ | ⟨-, -, hpre⟩ | ⟨-, ⟨off, harmed⟩, -⟩ := rxDonePrecondition_cases s d
  · exact absurd (hnot.symm.trans hs) Bool.false_ne_true
  · exact exec_rxDone_of_precondition hpre
  · exact absurd harmed (hunarmed off)

end Sys2Proof.Machine
end

section
/-! PROOFS for 41_receiver.md sections 4 and 6: the timeout supervisor, and runs of ticks and frames. -/

namespace Sys2Proof

/-- R7. -/
theorem Config.one_le_tRxTimeout (c : Config) : 1 ≤ c.tRxTimeout := ((Params.valid_iff _).1 c.ok).2.2

end Sys2Proof

namespace Sys2Proof.Machine

/-! ## One tick -/

/-- R97 at a started receiver. -/
theorem exec_tickWait_of_started {s : State} (hs : s.started = true) :
    exec .tickWait s = .next { s with rxTicks := 0 } := by
  rw [exec, execTickWait, afterStart_of_started hs]

/-- R97: a tick changes nothing of a waiting, started receiver. -/
theorem react_tick_of_stateA {s : State} (ha : stateA s) (hs : s.started = true) :
    react .tick s = .next (beginEvent s.inbox s) := by
  obtain ⟨hc, ht, -, -⟩ := ha
  rw [react, deliver, beginEvent_cursor, hc, decodeEvent, exec_tickWait_of_started (by exact hs), ← ht]
  rfl

/-- R98: a tick below the threshold counts. -/
theorem exec_tickInProgress_count {s : State} (hs : s.started = true) (ht : s.rxTicks + 1 < s.cfg.tRxTimeout) :
    exec .tickInProgress s = .next { s with rxTicks := s.rxTicks + 1 } := by
  obtain ⟨hnot, -⟩ | ⟨-, -, h⟩ | ⟨-, hge, -⟩ := execTickInProgress_cases s
  · exact absurd (hnot.symm.trans hs) Bool.false_ne_true
  · exact h
  · exact absurd hge (Nat.not_le.2 ht)

/-- R98: the tick that reaches the threshold aborts. -/
theorem exec_tickInProgress_abort {s : State} (hs : s.started = true) (ht : s.cfg.tRxTimeout ≤ s.rxTicks + 1) :
    exec .tickInProgress s = .next (abortReceive s) := by
  obtain ⟨hnot, -⟩ | ⟨-, hlt, -⟩ | ⟨-, -, h⟩ := execTickInProgress_cases s
  · exact absurd (hnot.symm.trans hs) Bool.false_ne_true
  · exact absurd ht (Nat.not_le.2 hlt)
  · exact h

/-- Settles O31: the two sides of the threshold. -/
theorem tickWhileInProgress : Obligations.TickWhileInProgress := by
  refine fun s hs => ⟨exec_tickInProgress_count hs, fun ht => ?_⟩
  rw [exec_tickInProgress_abort hs ht, abortReceive_eq, hs]

/-- R90: a tick and a delivery to a frame in progress, taken as whole steps. -/
theorem react_inProgress {s : State} (hc : s.cursor = .inProgress) :
    react .tick s = exec .tickInProgress (beginEvent s.inbox s) ∧
      ∀ d, react (.rxDone d) s = exec (.rxDoneRemainder d) (beginEvent s.inbox s) := by
  simp only [react, deliver, beginEvent_cursor, hc, decodeEvent, implies_true, and_self]

/-! ## Runs of ticks -/

/-- The first step of a run clears the outputs, so a run that takes a step may start from the cleared state. -/
theorem runEvents_beginEvent {es : List Event} (h : es ≠ []) (s : State) :
    runEvents es (beginEvent s.inbox s) = runEvents es s := by
  cases es with
  | nil => exact absurd rfl h
  | cons e es => rfl

theorem runEvents_singleton {e : Event} {s t : State} (h : react e s = .next t) : runEvents [e] s = .next t := by
  rw [runEvents_cons [] h, runEvents_nil]

theorem ticks_ne_nil (n : Nat) : List.replicate (n + 1) Event.tick ≠ [] := List.cons_ne_nil _ _

/-- R97: any number of ticks leave a waiting, started receiver as it is. -/
theorem runEvents_ticks_of_stateA {s : State} (ha : stateA s) (hs : s.started = true) (n : Nat) :
    runEvents (List.replicate n .tick) (beginEvent s.inbox s) = .next (beginEvent s.inbox s) := by
  induction n with
  | zero => rfl
  | succ n ih =>
    have htick : react .tick (beginEvent s.inbox s) = .next (beginEvent s.inbox s) := react_tick_of_stateA (by exact ha) hs
    rw [List.replicate_succ, runEvents_cons _ htick, ih]

/-- Settles O30: the two sides of the STARTED check, and the run of ticks. -/
theorem tickWhileWaiting : Obligations.TickWhileWaiting := by
  refine ⟨fun s hs => exec_tickWait_of_started hs, fun s hs => ?_, fun s n ha hs => ?_⟩
  · exact eventsBeforeStartAreMarked s hs .tickWait (.inr (.inl rfl))
  · rw [← runEvents_beginEvent (ticks_ne_nil n)]
    exact runEvents_ticks_of_stateA ha hs (n + 1)

/-- The state after `n` ticks that only counted. -/
def ticked (n : Nat) (s : State) : State := { beginEvent s.inbox s with rxTicks := s.rxTicks + n }

section InProgress

variable {s : State} (hs : s.started = true) (hc : s.cursor = .inProgress)

include hs hc

/-- R98: ticks that stay below the threshold only count. -/
theorem runEvents_ticks_count (n : Nat) (hn : s.rxTicks + n < s.cfg.tRxTimeout) :
    runEvents (List.replicate n .tick) (beginEvent s.inbox s) = .next (ticked n s) := by
  induction n with
  | zero => rfl
  | succ n ih =>
    have htick : react .tick (ticked n s) = .next (ticked (n + 1) s) :=
      ((react_inProgress (s := ticked n s) hc).1).trans
        (exec_tickInProgress_count (s := beginEvent s.inbox (ticked n s)) hs hn)
    rw [List.replicate_succ', runEvents_append _ (ih (by omega)), runEvents_singleton htick]

/-- R100: the tick that reaches the threshold aborts and re-arms. -/
theorem runEvents_ticks_abort (ht : s.rxTicks < s.cfg.tRxTimeout) :
    runEvents (List.replicate (s.cfg.tRxTimeout - s.rxTicks) .tick) s = .next (abortReceive (beginEvent s.inbox s)) := by
  obtain ⟨n, hn⟩ : ∃ n, s.cfg.tRxTimeout - s.rxTicks = n + 1 := ⟨s.cfg.tRxTimeout - s.rxTicks - 1, by omega⟩
  have hlast : s.cfg.tRxTimeout ≤ s.rxTicks + n + 1 := by omega
  have habort : react .tick (ticked n s) = .next (abortReceive (ticked n s)) :=
    ((react_inProgress (s := ticked n s) hc).1).trans
      (exec_tickInProgress_abort (s := beginEvent s.inbox (ticked n s)) hs hlast)
  have hforget : abortReceive (ticked n s) = abortReceive (beginEvent s.inbox s) := by
    rw [abortReceive_eq, abortReceive_eq, ticked]
  rw [hn, ← runEvents_beginEvent (ticks_ne_nil n), List.replicate_succ',
    runEvents_append _ (runEvents_ticks_count hs hc n (by omega)), runEvents_singleton habort, hforget]

end InProgress

/-- Settles O32: counting from 0, the threshold is reached at the T_RX_TIMEOUT-th tick. -/
theorem timeoutAbortsOnThreshold : Obligations.TimeoutAbortsOnThreshold := by
  rintro s ⟨hc, ht, -, -, -⟩ hs hzero
  constructor
  · intro n hn
    have hrun := runEvents_ticks_count hs hc (n + 1) (by omega)
    rw [runEvents_beginEvent (ticks_ne_nil n), ticked, hzero, Nat.zero_add] at hrun
    exact hrun
  · have hrun := runEvents_ticks_abort hs hc ht
    rw [hzero, Nat.sub_zero, abortReceive_eq] at hrun
    rw [hrun, hs]
    rfl

theorem stateA_abortReceive (s : State) : stateA (abortReceive s) := stateA_startReceive _

/-- Settles O35: a waiting receiver needs no tick, a frame in progress those that are left to the threshold. -/
theorem noLockout : Obligations.NoLockout := by
  intro s hinv hs
  have hreceiver : stateA s ∨ stateB s := by simpa only [hs, if_true] using hinv.receiver
  obtain ha | ⟨hc, ht, -, -, -⟩ := hreceiver
  · exact ⟨0, Nat.zero_le _, s, rfl, ha, rfl, rfl, rfl⟩
  · exact ⟨_, Nat.sub_le _ _, _, runEvents_ticks_abort hs hc ht, stateA_abortReceive _, rfl, rfl, rfl⟩

/-! ## Runs that complete a frame -/

/-- R92: the first byte, taken as a whole step by a waiting, started receiver. -/
theorem react_firstByte {s : State} (ha : stateA s) (hs : s.started = true) (d0 : Byte) :
    react (.rxDone [d0]) s = .next (firstByte d0 (beginEvent s.inbox s)) := by
  obtain ⟨hc, -, -, hl⟩ := ha
  rw [react, deliver, beginEvent_cursor, hc, decodeEvent]
  exact execRxDoneFirst_eq_firstByte (s := beginEvent s.inbox s) d0 hs hl

/-- R103: a valid frame whose parts are fewer than T_RX_TIMEOUT ticks apart is answered; nothing of the ticks is left in the
state. -/
theorem runEvents_timelyFrame {s : State} {f : Frame} {n : Nat} (ha : stateA s) (hs : s.started = true)
    (hb : s.txBusy = false) (hv : validFrame s.cfg f = true) (hn : n < s.cfg.tRxTimeout) :
    runEvents ([.rxDone [f[0]]] ++ List.replicate n .tick ++ [.rxDone [f[1], f[2]]]) s =
      .next (answered f (beginEvent s.inbox s)) := by
  let u := firstByte f[0] (beginEvent s.inbox s)
  have hfirst : react (.rxDone [f[0]]) s = .next u := react_firstByte ha hs f[0]
  have hcount : runEvents (List.replicate n .tick) (beginEvent u.inbox u) = .next (ticked n u) := by
    obtain ⟨-, hzero, -, -⟩ := ha
    have hn' : s.rxTicks + n < s.cfg.tRxTimeout := by omega
    exact runEvents_ticks_count (s := u) hs rfl n hn'
  have hbyte : (ticked n u).rxbuf[0] = f[0] := by simp [ticked, u]
  have hlast : react (.rxDone [f[1], f[2]]) (ticked n u) = .next (answered f (beginEvent s.inbox s)) :=
    ((react_inProgress (s := ticked n u) rfl).2 _).trans
      (exec_remainder_answered (s := beginEvent s.inbox (ticked n u)) (f := f) hs rfl hbyte hv hb)
  rw [List.append_assoc, List.singleton_append, runEvents_cons _ hfirst,
    ← runEvents_beginEvent (List.append_ne_nil_of_right_ne_nil _ (List.cons_ne_nil _ _)), runEvents_append _ hcount,
    runEvents_singleton hlast]

/-- Settles O36: what `answered` leaves. -/
theorem timelyFrameIsAnswered : Obligations.TimelyFrameIsAnswered := by
  intro s f n ha hs hb hv hn
  refine ⟨_, runEvents_timelyFrame ha hs hb hv hn, stateA_answered _ _, rfl, rfl, rfl, rfl, ?_, ?_⟩
  · rw [sent_answered]
    rfl
  · show errAfter s.cfg.errCodes f s.err = _
    by_cases hreset : cmdOf f = cmdErrorReset
    · rw [errAfter_errorReset _ _ hreset, if_pos hreset]
    · rw [errAfter, if_neg hreset, if_neg hreset]

/-- R71: the pseudo-event FRAME, sent to a waiting receiver with no transmission in flight, is answered. -/
theorem runEvents_frameEvents {s : State} (ha : stateA s) (hs : s.started = true) (hb : s.txBusy = false) (k : Nibble)
    (l : Byte) :
    runEvents (frameEvents s.cfg.devAddr k l) s =
      .next (answered (scriptFrame s.cfg.devAddr k l) (beginEvent s.inbox s)) :=
  runEvents_timelyFrame ha hs hb (validFrame_scriptFrame s.cfg k l) s.cfg.one_le_tRxTimeout

/-- The state after a frame has been answered and its transmission is over. -/
def settled (f : Frame) (s : State) : State :=
  { beginEvent s.inbox (answered f (beginEvent s.inbox s)) with txBusy := false }

/-- R71, R129: FRAME followed by TX_DONE leaves a waiting receiver with no transmission in flight. -/
theorem runEvents_frameEvents_txDone {s : State} (ha : stateA s) (hs : s.started = true) (hb : s.txBusy = false) (k : Nibble)
    (l : Byte) :
    runEvents (frameEvents s.cfg.devAddr k l ++ [.txDone]) s = .next (settled (scriptFrame s.cfg.devAddr k l) s) := by
  rw [runEvents_append _ (runEvents_frameEvents ha hs hb k l)]
  rfl

theorem stateA_settled (f : Frame) (s : State) : stateA (settled f s) := ⟨rfl, rfl, rfl, rfl⟩

/-- Settles O18: SEND_DATA is skip, so the poll's response shows what ERROR_RESET left. -/
theorem sendDataChangesNothing : Obligations.SendDataChangesNothing := by
  refine ⟨fun s r hv => ?_, fun s l ha hs hb => ?_⟩
  · rw [exec_valid (f := frameOf cmdSendData r) rfl hv, dispatch_frameOf]
    rfl
  · let u := settled (scriptFrame s.cfg.devAddr cmdErrorReset 0x00#8) s
    let poll := scriptFrame s.cfg.devAddr cmdSendData l
    have hreset : runEvents (frameEvents s.cfg.devAddr cmdErrorReset 0x00#8 ++ [.txDone]) s = .next u :=
      runEvents_frameEvents_txDone ha hs hb cmdErrorReset 0x00#8
    have hpoll : runEvents (frameEvents s.cfg.devAddr cmdSendData l) u = .next (answered poll (beginEvent u.inbox u)) :=
      runEvents_frameEvents (s := u) (stateA_settled _ s) rfl rfl cmdSendData l
    have hcleared : u.err = s.cfg.errCodes.noError := errAfter_errorReset _ _ (cmdOf_scriptFrame _ _ _)
    have herr : (answered poll (beginEvent u.inbox u)).err = s.cfg.errCodes.noError :=
      (errAfter_sendData _ _ (cmdOf_scriptFrame _ _ _)).trans hcleared
    exact ⟨_, _, (runEvents_append _ hreset).trans hpoll, sent_answered _ _, herr, herr⟩

end Sys2Proof.Machine
end

section
/-! PROOFS for 43_response.md: the latch's write port, the setters, the response builder and what a step sends. -/

namespace Sys2Proof.Machine

/-! ## One row at a time -/

theorem exec_faultRecognised_of_started {s : State} (hs : s.started = true) (k : TransportFault) :
    exec (.faultRecognised k) s = .next { s with err := faultCode s.cfg.errCodes k } := by
  rw [exec, execFaultRecognised, afterStart_of_started hs]

theorem exec_faultOther_of_started {s : State} (hs : s.started = true) (x : Nat) : exec (.faultOther x) s = .next s := by
  rw [exec, execFaultOther, afterStart_of_started hs]

/-- Settles O37: the row of each kind. -/
theorem faultRecordsItsCode : Obligations.FaultRecordsItsCode := fun _ hs =>
  ⟨exec_faultRecognised_of_started hs .parity, exec_faultRecognised_of_started hs .noise,
    exec_faultRecognised_of_started hs .framing, exec_faultRecognised_of_started hs .overrun,
    exec_faultRecognised_of_started hs .dma, exec_faultOther_of_started hs⟩

/-- Settles O38: each setter is one write. -/
theorem settersWriteTheirRegister : Obligations.SettersWriteTheirRegister := fun _ =>
  ⟨fun _ => rfl, fun _ => rfl, fun _ => rfl⟩

/-- Settles O39: the two ends of the builder. -/
theorem buildAndSendPacksState : Obligations.BuildAndSendPacksState := by
  intro s
  obtain ⟨hb, h⟩ | ⟨hb, h⟩ := buildAndSend_cases s
  · refine ⟨fun hfree => absurd (hfree.symm.trans hb) Bool.false_ne_true, fun _ => ?_⟩
    rw [exec, execBuildAndSend, h]
    rfl
  · refine ⟨fun _ => ?_, fun hbusy => absurd (hb.symm.trans hbusy) Bool.false_ne_true⟩
    rw [exec, execBuildAndSend, h]

/-- Settles O40: after the STARTED check the row looks at TX_BUSY. -/
theorem txDoneEndsTransmission : Obligations.TxDoneEndsTransmission := by
  intro s hs
  have hrow : exec .txDone s =
      if s.txBusy then .next { s with txBusy := false } else raiseModelFault .txDoneUnexpected s := by
    rw [exec, execTxDone, afterStart_of_started hs]
  refine ⟨fun hb => hrow.trans (if_pos hb), fun hb => hrow.trans (if_neg ?_)⟩
  rw [hb]
  exact Bool.false_ne_true

/-! ## What a step sends -/

/-- R93: an event completes a frame exactly when it delivers the two bytes a frame in progress is armed for. -/
theorem completedFrame_eq_some_iff {s : State} {e : Event} {f : Frame} :
    completedFrame s e = some f ↔
      ∃ d1 d2 off, e = .rxDone [d1, d2] ∧ s.started = true ∧ s.cursor = .inProgress ∧ s.linkRx = .armed off 2 ∧
        f = #v[s.rxbuf[0], d1, d2] := by
  constructor
  · intro h
    unfold completedFrame at h
    split at h
    next d1 d2 off hc hl =>
      obtain ⟨hs, hf⟩ := Option.ite_none_right_eq_some.1 h
      exact ⟨d1, d2, off, rfl, hs, hc, hl, (Option.some.inj hf).symm⟩
    next => cases h
  · rintro ⟨d1, d2, off, rfl, hs, hc, ha, rfl⟩
    exact completedFrame_rxDone d1 d2 hs hc ha

theorem responseDue_iff {s : State} {e : Event} :
    responseDue s e = true ↔ ∃ f, completedFrame s e = some f ∧ validFrame s.cfg f = true := by
  unfold responseDue
  cases completedFrame s e <;> simp

/-- R93: what an event that completes a frame does. -/
theorem Reaction.frame_cases {e : Event} {s t : State} {f : Frame} (h : Reaction e s t) (hf : completedFrame s e = some f) :
    (validFrame s.cfg f = false ∧ t = startReceive s) ∨
      (validFrame s.cfg f = true ∧ s.txBusy = true ∧ t = markFault .txOverlap s) ∨
      (validFrame s.cfg f = true ∧ s.txBusy = false ∧ t = Machine.answered f s) := by
  obtain ⟨d1, d2, off, rfl, hs, hc, ha, rfl⟩ := completedFrame_eq_some_iff.1 hf
  cases h with
  | early _ hnot => exact absurd (hnot.symm.trans hs) Bool.false_ne_true
  | unarmed _ hlen => exact absurd (by rw [hc]; rfl) (hlen off ha)
  | discarded _ _ _ hv => exact .inl ⟨hv, rfl⟩
  | overlap _ _ _ hv hb => exact .inr (.inl ⟨hv, hb, rfl⟩)
  | answered _ _ _ hv hb => exact .inr (.inr ⟨hv, hb, rfl⟩)

/-- An event that completes no frame keeps LED and sends nothing. -/
theorem Reaction.of_no_frame {e : Event} {s t : State} (h : Reaction e s t) (hf : completedFrame s e = none) :
    t.led = s.led ∧ sent t.actions = sent s.actions := by
  cases h
  case answered d1 d2 off hs hc ha hv hb =>
    rw [completedFrame_rxDone d1 d2 hs hc ha] at hf
    cases hf
  all_goals exact ⟨rfl, by simp⟩

/-- R115, R127: an event sends nothing, and then no response was due or one is in flight; or it answers a frame. -/
theorem Reaction.sent_cases {e : Event} {s t : State} (h : Reaction e s t) :
    (sent t.actions = sent s.actions ∧ (responseDue s e = true → s.txBusy = true)) ∨
      (responseDue s e = true ∧ sent t.actions = sent s.actions ++ [t.txbuf] ∧ t.txbuf = t.response) := by
  cases hf : completedFrame s e with
  | none =>
    obtain ⟨-, hsent⟩ := h.of_no_frame hf
    exact .inl ⟨hsent, by simp [responseDue, hf]⟩
  | some f =>
    have hdue : responseDue s e = validFrame s.cfg f := by rw [responseDue, hf]
    obtain ⟨hv, rfl⟩ | ⟨hv, hb, rfl⟩ | ⟨hv, hb, rfl⟩ := h.frame_cases hf
    · exact .inl ⟨by simp, fun hd => absurd (hv.symm.trans (hdue.symm.trans hd)) Bool.false_ne_true⟩
    · exact .inl ⟨rfl, fun _ => hb⟩
    · exact .inr ⟨hdue.trans hv, sent_answered f s, answered_txbuf f s⟩

@[simp] theorem responseDue_beginEvent (rest : List Event) (s : State) (e : Event) :
    responseDue (beginEvent rest s) e = responseDue s e := rfl

/-- A step with an event pending is a reaction to it. -/
theorem step_reaction {s t : State} {e : Event} {rest : List Event} (hi : s.inbox = e :: rest) (h : step s = .next t) :
    Reaction e (beginEvent rest s) t := by
  obtain ⟨hnil, -⟩ | ⟨e', rest', hi', hr⟩ := step_cases h
  · exact absurd (hnil.symm.trans hi) (List.cons_ne_nil _ _).symm
  · obtain ⟨rfl, rfl⟩ := List.cons.inj (hi'.symm.trans hi)
    exact hr

/-- Settles O41: a step's action list starts empty, so what the event sends is all that is sent. -/
theorem everyTxIsFresh : Obligations.EveryTxIsFresh := by
  intro s t e rest hi h
  have hcases := (step_reaction hi h).sent_cases
  simp only [beginEvent_actions, beginEvent_txBusy, responseDue_beginEvent, sent_nil, List.nil_append] at hcases
  obtain ⟨hsent, hbusy⟩ | ⟨hdue, hsent, hfresh⟩ := hcases
  · refine ⟨fun r hr => ?_, fun hdue hfree => absurd (hfree.symm.trans (hbusy hdue)) Bool.false_ne_true⟩
    rw [hsent] at hr
    exact absurd hr List.not_mem_nil
  · refine ⟨fun r hr => ?_, fun _ _ => hsent⟩
    rw [hsent, List.mem_singleton] at hr
    exact ⟨hr.trans hfresh, hr, hdue⟩

end Sys2Proof.Machine
end

section
/-! PROOFS for 10_state.md: which steps write LED, the telemetry registers, CURSOR and FAULTED. -/

namespace Sys2Proof.Machine

/-- R25, R116: an event that changes LED answers a frame, and LED is what the frame's dispatch leaves. -/
theorem Reaction.led_cases {e : Event} {s t : State} (h : Reaction e s t) :
    t.led = s.led ∨
      ∃ f, completedFrame s e = some f ∧ validFrame s.cfg f = true ∧ cmdOf f = cmdUpdateOutputs ∧ t.led = ledsOf f := by
  cases hf : completedFrame s e with
  | none => exact .inl (h.of_no_frame hf).1
  | some f =>
    obtain ⟨-, rfl⟩ | ⟨-, -, rfl⟩ | ⟨hv, -, rfl⟩ := h.frame_cases hf
    · exact .inl rfl
    · exact .inl rfl
    · by_cases hupdate : cmdOf f = cmdUpdateOutputs
      · exact .inr ⟨f, rfl, hv, hupdate, ledAfter_update s.led hupdate⟩
      · exact .inl (ledAfter_other s.led hupdate)

/-- Settles O44: an idle step keeps LED, and an event changes it only by answering UPDATE_OUTPUTS. -/
theorem ledChangesOnlyOnUpdate : Obligations.LedChangesOnlyOnUpdate := by
  intro s t h hne
  obtain ⟨-, rfl⟩ | ⟨e, rest, hi, hr⟩ := step_cases h
  · exact absurd rfl hne
  · obtain hkept | ⟨f, hf, hv, hupdate, hled⟩ := hr.led_cases
    · exact absurd hkept hne
    · exact ⟨e, f, by rw [hi, List.head?_cons], hf, hv, hupdate, hled⟩

/-- R37: an event keeps each telemetry register, or is its setter. -/
theorem Reaction.telemetry_cases {e : Event} {s t : State} (h : Reaction e s t) :
    (t.temp = s.temp ∨ e = .setTemp t.temp) ∧ (t.volt = s.volt ∨ e = .setVolt t.volt) ∧
      (t.button = s.button ∨ e = .setButton t.button) := by
  cases h
  case setTemp => exact ⟨.inr rfl, .inl rfl, .inl rfl⟩
  case setVolt => exact ⟨.inl rfl, .inr rfl, .inl rfl⟩
  case setButton => exact ⟨.inl rfl, .inl rfl, .inr rfl⟩
  all_goals exact ⟨.inl rfl, .inl rfl, .inl rfl⟩

/-- Settles O46: `Reaction.telemetry_cases` for a whole step. -/
theorem telemetryChangesOnlyBySetters : Obligations.TelemetryChangesOnlyBySetters := by
  intro s t h
  obtain ⟨-, rfl⟩ | ⟨e, rest, hi, hr⟩ := step_cases h
  · exact ⟨.inl rfl, .inl rfl, .inl rfl⟩
  · simpa only [hi, List.head?_cons, Option.some.injEq, beginEvent_temp, beginEvent_volt, beginEvent_button]
      using hr.telemetry_cases

/-- R21: which events move CURSOR. -/
theorem Reaction.cursor_cases {e : Event} {s t : State} (h : Reaction e s t) :
    t.cursor = s.cursor ∨ (t.cursor = .inProgress ∧ ∃ d0, e = .rxDone [d0]) ∨
      (t.cursor = .waitFirst ∧
        (e = .start ∨ (∃ d1 d2, e = .rxDone [d1, d2]) ∨ (e = .tick ∧ s.cfg.tRxTimeout ≤ s.rxTicks + 1))) := by
  cases h
  case firstByte d0 _ _ _ _ => exact .inr (.inl ⟨rfl, d0, rfl⟩)
  case start => exact .inr (.inr ⟨rfl, .inl rfl⟩)
  case discarded d1 d2 _ _ _ _ _ => exact .inr (.inr ⟨rfl, .inr (.inl ⟨d1, d2, rfl⟩)⟩)
  case answered d1 d2 _ _ _ _ _ _ => exact .inr (.inr ⟨rfl, .inr (.inl ⟨d1, d2, rfl⟩)⟩)
  case tickAbort _ _ ht => exact .inr (.inr ⟨rfl, .inr (.inr ⟨rfl, ht⟩)⟩)
  all_goals exact .inl rfl

/-- Settles O34: `Reaction.cursor_cases` for a whole step; the other direction's value of CURSOR rules out the other case. -/
theorem cursorTransitions : Obligations.CursorTransitions := by
  intro s t h
  obtain ⟨-, rfl⟩ | ⟨e, rest, hi, hr⟩ := step_cases h
  · exact ⟨fun hw hp => absurd (hw.symm.trans hp) nofun, fun hp hw => absurd (hp.symm.trans hw) nofun⟩
  · have hcases := hr.cursor_cases
    simp only [beginEvent_cursor, beginEvent_cfg, beginEvent_rxTicks] at hcases
    simp only [hi, List.head?_cons, Option.some.injEq]
    obtain hkept | ⟨hnow, hfirst⟩ | ⟨hnow, hback⟩ := hcases
    · refine ⟨fun hw hp => ?_, fun hp hw => ?_⟩
      · exact absurd (hw.symm.trans (hkept.symm.trans hp)) nofun
      · exact absurd (hp.symm.trans (hkept.symm.trans hw)) nofun
    · exact ⟨fun _ _ => hfirst, fun _ hw => absurd (hnow.symm.trans hw) nofun⟩
    · exact ⟨fun _ hp => absurd (hnow.symm.trans hp) nofun, fun _ _ => hback⟩

/-- R35: an event keeps FAULTED, or it does nothing but mark a model fault. -/
theorem Reaction.faulted_cases {e : Event} {s t : State} (h : Reaction e s t) :
    t.faulted = s.faulted ∨ ∃ k, t = markFault k s := by
  cases h
  case early => exact .inr ⟨_, rfl⟩
  case unarmed => exact .inr ⟨_, rfl⟩
  case overlap => exact .inr ⟨_, rfl⟩
  case txUnexpected => exact .inr ⟨_, rfl⟩
  all_goals exact .inl rfl

/-- R35: a step keeps FAULTED, or it does nothing but mark a model fault. -/
theorem step_faulted_cases {s t : State} (h : step s = .next t) :
    t.faulted = s.faulted ∨ ∃ k, t = markFault k (beginEvent s.inbox.tail s) := by
  obtain ⟨-, rfl⟩ | ⟨e, rest, hi, hr⟩ := step_cases h
  · exact .inl rfl
  · rw [hi, List.tail_cons]
    exact hr.faulted_cases

/-- Settles O51: a mark is kept by a further fault. -/
theorem faultMarkIsPermanent : Obligations.FaultMarkIsPermanent := by
  intro s t k h hmark
  obtain hkept | ⟨k', rfl⟩ := step_faulted_cases h
  · rw [hkept, hmark]
  · rw [markFault_faulted, beginEvent_faulted, hmark, Option.some_or]

/-- Settles O52: a step that changes FAULTED marked a fault, in a state that had none. -/
theorem faultingStepOnlySetsMark : Obligations.FaultingStepOnlySetsMark := by
  intro s t h hne
  obtain hkept | ⟨k, rfl⟩ := step_faulted_cases h
  · exact absurd hkept hne
  · have hnone : s.faulted = none := by
      cases hmark : s.faulted with
      | none => rfl
      | some k' => exact absurd (faultMarkIsPermanent s _ k' h hmark) (hmark ▸ hne)
    refine ⟨k, ?_⟩
    rw [markFault, beginEvent, hnone, Option.none_or]

/-- R117: a dispatch cancels no receive. -/
theorem abortRx_notMem_dispatchActions (f : Frame) : .abortRx ∉ dispatchActions f := by
  unfold dispatchActions
  split <;> simp

/-- R102: an event emits AbortRx only as the timeout of a frame in progress. -/
theorem Reaction.abortRx_cases {e : Event} {s t : State} (h : Reaction e s t) (hmem : .abortRx ∈ t.actions) :
    .abortRx ∈ s.actions ∨
      (e = .tick ∧ s.cursor = .inProgress ∧ s.started = true ∧ s.cfg.tRxTimeout ≤ s.rxTicks + 1 ∧ t = abortReceive s) := by
  cases h
  case tickAbort hs hc ht => exact .inr ⟨rfl, hc, hs, ht, rfl⟩
  case answered => simpa [Machine.answered, abortRx_notMem_dispatchActions] using hmem
  all_goals exact .inl (by simpa using hmem)

/-- Settles O33: a step's action list starts empty, so AbortRx is the event's own. -/
theorem abortOnlyOnTimeout : Obligations.AbortOnlyOnTimeout := by
  intro s t h hmem
  obtain ⟨-, rfl⟩ | ⟨e, rest, hi, hr⟩ := step_cases h
  · exact absurd hmem List.not_mem_nil
  · obtain hold | ⟨rfl, hc, hs, ht, rfl⟩ := hr.abortRx_cases hmem
    · exact absurd hold List.not_mem_nil
    · exact ⟨hc, by rw [hi, List.head?_cons], hs, ht, rfl, rfl, rfl, rfl⟩

end Sys2Proof.Machine
end

section
/-! PROOFS for 10_state.md section 2 and 70_reset_and_hazards.md: reset, the invariant and what keeps it. -/

namespace Sys2Proof

/-! ## The codes ERR may hold -/

theorem ErrCodes.noError_mem_all (c : ErrCodes) : c.noError ∈ c.all := by
  simp [ErrCodes.all]

theorem ErrCodes.incorrectCommand_mem_all (c : ErrCodes) : c.incorrectCommand ∈ c.all := by
  simp [ErrCodes.all]

end Sys2Proof

namespace Sys2Proof.Machine

theorem faultCode_mem_all (c : ErrCodes) (k : TransportFault) : faultCode c k ∈ c.all := by
  cases k <;> simp [faultCode, ErrCodes.all]

theorem errAfter_mem_all {c : ErrCodes} {err : Byte} (f : Frame) (h : err ∈ c.all) : errAfter c f err ∈ c.all := by
  obtain hkept | ⟨-, hreset⟩ | ⟨-, -, -, hlatched⟩ := errAfter_cases c f err
  · rwa [hkept]
  · rw [hreset]
    exact c.noError_mem_all
  · rw [hlatched]
    exact c.incorrectCommand_mem_all

/-! ## Reset -/

/-- R165: the reset state meets the invariant, before START. -/
theorem inv_resetWith (c : Config) : Inv (State.resetWith c) where
  receiver := ⟨rfl, rfl, rfl, rfl, rfl⟩
  ticks_le := Nat.zero_le _
  err_legal := c.errCodes.noError_mem_all
  reserve_zero := powerCycle_reserve (State.resetWith c)
  in_flight := nofun

/-- Settles O57: `State.reset` is the reset state of the reference configuration. -/
theorem resetMeetsInvariant : Obligations.ResetMeetsInvariant := ⟨inv_resetWith Config.reference, inv_resetWith⟩

theorem powerCycle_outLine (s : State) (l : Line) : (powerCycle s).outLine l = false := by
  have hled : (powerCycle s).led = 0#4 := rfl
  rw [State.outLine, State.ledLine, hled, BitVec.getLsbD_zero]

theorem powerCycle_txByte (s : State) (i : Fin 8) : (powerCycle s).txByte i = 0x00#8 := by
  have hzero : ∀ j : Fin 8, (State.resetWith Config.reference).txByte j = 0x00#8 := by decide
  exact hzero i

/-- Settles O58: the values `State.resetWith` lists, and the views of LED and TXBUF. -/
theorem resetValues : Obligations.ResetValues := fun s =>
  ⟨rfl, rfl, rfl, powerCycle_outLine s, powerCycle_err s, rfl, rfl, rfl, powerCycle_txByte s, rfl, rfl, rfl, rfl, rfl, rfl⟩

/-- Settles O60: the check of the parameters decides, and no event writes the configuration. -/
theorem configurationIsCheckedAndFixed : Obligations.ConfigurationIsCheckedAndFixed := by
  refine ⟨fun p hlow hhigh htimeout => ?_, fun p hp => ?_, fun s t h => step_cfg h⟩
  · have hvalid : p.valid = true := p.valid_iff.2 ⟨hlow, hhigh, htimeout⟩
    exact ⟨⟨p, hvalid⟩, rfl, dif_pos hvalid⟩
  · have hnot : ¬ p.valid = true := by
      rw [Params.valid_iff]
      omega
    exact instantiate_of_not_valid hnot

/-! ## The receiver in a state that meets the invariant -/

section Receiver

variable {s : State} (h : Inv s) (hs : s.started = true)

include h hs

theorem Inv.stateA_or_stateB : stateA s ∨ stateB s := by
  simpa only [hs, if_true] using h.receiver

theorem Inv.stateA_of_waitFirst (hc : s.cursor = .waitFirst) : stateA s :=
  (h.stateA_or_stateB hs).resolve_right fun hb => absurd (hc.symm.trans hb.1) nofun

theorem Inv.stateB_of_inProgress (hc : s.cursor = .inProgress) : stateB s :=
  (h.stateA_or_stateB hs).resolve_left fun ha => absurd (hc.symm.trans ha.1) nofun

/-- D10: the armed length is the one the phase asks for. -/
theorem Inv.length_eq_phaseLength {off len : Nat} (ha : s.linkRx = .armed off len) : len = phaseLength s.cursor := by
  obtain ⟨hc, -, -, hl⟩ | ⟨hc, -, -, -, hl⟩ := h.stateA_or_stateB hs
  all_goals
    obtain ⟨-, rfl⟩ := LinkRx.armed.inj (ha.symm.trans hl)
    rw [hc]
    rfl

/-- D10: the armed offset is 0 or 1. -/
theorem Inv.armed_zero_or_one {off len : Nat} (ha : s.linkRx = .armed off len) :
    s.linkRx = .armed 0 len ∨ s.linkRx = .armed 1 len := by
  obtain ⟨-, -, -, hl⟩ | ⟨-, -, -, -, hl⟩ := h.stateA_or_stateB hs
  · obtain ⟨rfl, -⟩ := LinkRx.armed.inj (ha.symm.trans hl)
    exact .inl ha
  · obtain ⟨rfl, -⟩ := LinkRx.armed.inj (ha.symm.trans hl)
    exact .inr ha

end Receiver

/-! ## The operations keep the invariant -/

theorem Inv.beginEvent {s : State} (h : Inv s) (rest : List Event) : Inv (beginEvent rest s) :=
  ⟨h.receiver, h.ticks_le, h.err_legal, h.reserve_zero, h.in_flight⟩

theorem Inv.markFault {s : State} (h : Inv s) (k : ModelFaultKind) : Inv (markFault k s) :=
  ⟨h.receiver, h.ticks_le, h.err_legal, h.reserve_zero, h.in_flight⟩

theorem Inv.startReceive {s : State} (h : Inv s) : Inv (startReceive s) where
  receiver := .inl (stateA_startReceive s)
  ticks_le := Nat.zero_le _
  err_legal := h.err_legal
  reserve_zero := h.reserve_zero
  in_flight := h.in_flight

theorem Inv.abortReceive {s : State} (h : Inv s) : Inv (abortReceive s) where
  receiver := .inl (stateA_abortReceive s)
  ticks_le := Nat.zero_le _
  err_legal := h.err_legal
  reserve_zero := h.reserve_zero
  in_flight := h.in_flight

/-- R92: a first byte leaves a frame in progress, with no tick counted and the other bytes zero. -/
theorem Inv.firstByte {s : State} (h : Inv s) (hs : s.started = true) (ha : stateA s) (d0 : Byte) :
    Inv (firstByte d0 s) where
  receiver := by
    obtain ⟨-, hticks, hbuf, -⟩ := ha
    have hlt : s.rxTicks < s.cfg.tRxTimeout := hticks ▸ s.cfg.one_le_tRxTimeout
    rw [firstByte_eq, hbuf, if_pos (by exact hs)]
    exact .inr ⟨rfl, hlt, rfl, rfl, rfl⟩
  ticks_le := h.ticks_le
  err_legal := h.err_legal
  reserve_zero := h.reserve_zero
  in_flight := h.in_flight

/-- R126: an answered frame puts a packed response in flight. -/
theorem Inv.answered {s : State} (h : Inv s) (f : Frame) : Inv (answered f s) where
  receiver := .inl (stateA_answered f s)
  ticks_le := Nat.zero_le _
  err_legal := errAfter_mem_all f h.err_legal
  reserve_zero := packResponse_reserve _ _ _ _ _
  in_flight := fun _ => responseCheck_packResponse _ _ _ _ _

/-- R97: a tick while waiting. -/
theorem Inv.tickWait {s : State} (h : Inv s) (hs : s.started = true) (ha : stateA s) : Inv { s with rxTicks := 0 } where
  receiver := by
    obtain ⟨hc, -, hbuf, hl⟩ := ha
    rw [if_pos (by exact hs)]
    exact .inl ⟨hc, rfl, hbuf, hl⟩
  ticks_le := Nat.zero_le _
  err_legal := h.err_legal
  reserve_zero := h.reserve_zero
  in_flight := h.in_flight

/-- R98: a tick that counts stays below the threshold. -/
theorem Inv.tickCount {s : State} (h : Inv s) (hs : s.started = true) (hb : stateB s)
    (ht : s.rxTicks + 1 < s.cfg.tRxTimeout) : Inv { s with rxTicks := s.rxTicks + 1 } where
  receiver := by
    obtain ⟨hc, -, hbyte1, hbyte2, hl⟩ := hb
    rw [if_pos (by exact hs)]
    exact .inr ⟨hc, ht, hbyte1, hbyte2, hl⟩
  ticks_le := Nat.le_of_lt ht
  err_legal := h.err_legal
  reserve_zero := h.reserve_zero
  in_flight := h.in_flight

/-- R129: the end of a transmission, which only a started block has. -/
theorem Inv.txDone {s : State} (h : Inv s) (hs : s.started = true) : Inv { s with txBusy := false } where
  receiver := by
    rw [if_pos (by exact hs)]
    exact h.stateA_or_stateB hs
  ticks_le := h.ticks_le
  err_legal := h.err_legal
  reserve_zero := h.reserve_zero
  in_flight := nofun

/-- Every event keeps the invariant. -/
theorem Reaction.inv {e : Event} {s t : State} (h : Reaction e s t) (hinv : Inv s) : Inv t := by
  cases h with
  | start => exact hinv.startReceive
  | early => exact hinv.markFault _
  | unarmed => exact hinv.markFault _
  | firstByte hs hc => exact hinv.firstByte hs (hinv.stateA_of_waitFirst hs hc) _
  | discarded => exact hinv.startReceive
  | overlap => exact hinv.markFault _
  | answered => exact hinv.answered _
  | tickWait hs hc => exact hinv.tickWait hs (hinv.stateA_of_waitFirst hs hc)
  | tickCount hs hc ht => exact hinv.tickCount hs (hinv.stateB_of_inProgress hs hc) ht
  | tickAbort => exact hinv.abortReceive
  | fault =>
    exact ⟨hinv.receiver, hinv.ticks_le, faultCode_mem_all _ _, hinv.reserve_zero, hinv.in_flight⟩
  | faultOther => exact hinv
  | setTemp => exact ⟨hinv.receiver, hinv.ticks_le, hinv.err_legal, hinv.reserve_zero, hinv.in_flight⟩
  | setVolt => exact ⟨hinv.receiver, hinv.ticks_le, hinv.err_legal, hinv.reserve_zero, hinv.in_flight⟩
  | setButton => exact ⟨hinv.receiver, hinv.ticks_le, hinv.err_legal, hinv.reserve_zero, hinv.in_flight⟩
  | txDone hs => exact hinv.txDone hs
  | txUnexpected => exact hinv.markFault _

/-- Settles O56: an idle step only clears the outputs, and every event keeps the invariant. -/
theorem everyStepKeepsInvariant : Obligations.EveryStepKeepsInvariant := by
  intro s t hinv h
  obtain ⟨-, rfl⟩ | ⟨e, rest, -, hr⟩ := step_cases h
  · exact hinv.beginEvent []
  · exact hr.inv (hinv.beginEvent rest)

end Sys2Proof.Machine
end

section
/-! PROOFS for 60_exceptions.md: the table of model faults, runs that keep the contract, and that every step answers. -/

namespace Sys2Proof.Machine

/-! ## The table of model faults -/

theorem modelFault_of_not_started {s : State} {e : Event} (he : needsStart e = true) (hs : s.started = false) :
    modelFault s e = some .eventBeforeStart := by
  cases e <;> simp [needsStart] at he <;> simp [modelFault, hs]

/-- R93: while waiting for the first byte no response is due. -/
theorem responseDue_of_waitFirst {s : State} (hc : s.cursor = .waitFirst) (e : Event) : responseDue s e = false := by
  rw [← Bool.not_eq_true, responseDue_iff]
  rintro ⟨f, hf, -⟩
  obtain ⟨-, -, -, -, -, hp, -, -⟩ := completedFrame_eq_some_iff.1 hf
  exact absurd (hc.symm.trans hp) nofun

/-- R93: a response is due if the frame the delivery completes is valid. -/
theorem responseDue_rxDone {s : State} {off : Nat} {d1 d2 : Byte} (hs : s.started = true) (hc : s.cursor = .inProgress)
    (ha : s.linkRx = .armed off 2) : responseDue s (.rxDone [d1, d2]) = validFrame s.cfg #v[s.rxbuf[0], d1, d2] := by
  rw [responseDue, completedFrame_rxDone d1 d2 hs hc ha]

section Table

variable {s : State} (h : Inv s) (hs : s.started = true)

include h hs

/-- D10: a delivery LINK_RX does not admit. -/
theorem Inv.modelFault_unarmed {d : List Byte}
    (hlen : ∀ off, s.linkRx = .armed off d.length → d.length ≠ phaseLength s.cursor) :
    modelFault s (.rxDone d) = some .rxUnarmed := by
  have hnot (off : Nat) : s.linkRx ≠ .armed off d.length := fun ha => hlen off ha (h.length_eq_phaseLength hs ha)
  simp only [modelFault, hs, hnot, or_self, if_true, if_false]

/-- D12: a delivery LINK_RX admits faults only if its response would overlap one in flight. -/
theorem Inv.modelFault_armed {d : List Byte} {off : Nat} (ha : s.linkRx = .armed off d.length) :
    modelFault s (.rxDone d) = if responseDue s (.rxDone d) && s.txBusy then some .txOverlap else none := by
  simp only [modelFault, hs, if_true, if_pos (h.armed_zero_or_one hs ha)]

end Table

/-- R144: from a state that meets the invariant an event raises none of the table's faults and keeps FAULTED, or marks the one
the table gives. -/
theorem Reaction.modelFault_cases {e : Event} {s t : State} (h : Reaction e s t) (hinv : Inv s) :
    (modelFault s e = none ∧ t.faulted = s.faulted) ∨ ∃ k, modelFault s e = some k ∧ t = markFault k s := by
  cases h with
  | start => exact .inl ⟨rfl, rfl⟩
  | early he hs => exact .inr ⟨_, modelFault_of_not_started he hs, rfl⟩
  | unarmed hs hlen => exact .inr ⟨_, hinv.modelFault_unarmed hs hlen, rfl⟩
  | firstByte hs hc ha =>
    refine .inl ⟨?_, rfl⟩
    rw [hinv.modelFault_armed hs ha, responseDue_of_waitFirst hc]
    rfl
  | discarded hs hc ha hv =>
    refine .inl ⟨?_, rfl⟩
    rw [hinv.modelFault_armed hs ha, responseDue_rxDone hs hc ha, hv]
    rfl
  | overlap hs hc ha hv hb =>
    refine .inr ⟨_, ?_, rfl⟩
    rw [hinv.modelFault_armed hs ha, responseDue_rxDone hs hc ha, hv, hb]
    rfl
  | answered hs hc ha hv hb =>
    refine .inl ⟨?_, rfl⟩
    rw [hinv.modelFault_armed hs ha, responseDue_rxDone hs hc ha, hv, hb]
    rfl
  | tickWait hs => exact .inl ⟨if_pos hs, rfl⟩
  | tickCount hs => exact .inl ⟨if_pos hs, rfl⟩
  | tickAbort hs => exact .inl ⟨if_pos hs, rfl⟩
  | fault hs => exact .inl ⟨if_pos hs, rfl⟩
  | faultOther hs => exact .inl ⟨if_pos hs, rfl⟩
  | setTemp => exact .inl ⟨rfl, rfl⟩
  | setVolt => exact .inl ⟨rfl, rfl⟩
  | setButton => exact .inl ⟨rfl, rfl⟩
  | txDone hs hb => exact .inl ⟨(if_pos hs).trans (if_pos hb), rfl⟩
  | txUnexpected hs hb => exact .inr ⟨_, (if_pos hs).trans (if_neg (by rw [hb]; exact Bool.false_ne_true)), rfl⟩

/-- R144 for an event taken as a whole step. -/
theorem react_modelFault_cases {s : State} (hinv : Inv s) (e : Event) :
    ∃ t, react e s = .next t ∧ Inv t ∧
      ((modelFault s e = none ∧ t.faulted = s.faulted) ∨
        ∃ k, modelFault s e = some k ∧ t = markFault k (beginEvent s.inbox s)) := by
  obtain ⟨t, ht, hr⟩ := react_reaction e s
  have hbegin := hinv.beginEvent s.inbox
  exact ⟨t, ht, hr.inv hbegin, hr.modelFault_cases hbegin⟩

/-- Settles O50: the two sides of the table. -/
theorem modelFaultsExactlyAsTabled : Obligations.ModelFaultsExactlyAsTabled := by
  intro s e hinv
  obtain ⟨t, ht, -, ⟨hnone, hfaulted⟩ | ⟨k, hsome, rfl⟩⟩ := react_modelFault_cases hinv e
  · exact ⟨fun k hk => absurd (hnone.symm.trans hk) nofun, fun _ => ⟨t, ht, hfaulted⟩⟩
  · refine ⟨fun k' hk' => ?_, fun hnone => absurd (hsome.symm.trans hnone) nofun⟩
    obtain rfl : k = k' := Option.some.inj (hsome.symm.trans hk')
    exact ht

/-- Settles O53, by induction on the events: each one meets no fault of the table, so the state after it is safe and meets the
invariant. -/
theorem contractRunsAreSafe : Obligations.ContractRunsAreSafe := by
  intro es
  induction es with
  | nil => exact fun s hinv hsafe _ => ⟨s, rfl, hsafe, hinv⟩
  | cons e es ih =>
    rintro s hinv hsafe ⟨hnone, hrest⟩
    obtain ⟨t, ht, htinv, ⟨-, hfaulted⟩ | ⟨k, hsome, -⟩⟩ := react_modelFault_cases hinv e
    · rw [runEvents_cons es ht]
      exact ih t htinv (hfaulted.trans hsafe) (hrest t ht)
    · exact absurd (hsome.symm.trans hnone) nofun

/-! ## Every step and every row answers a next state -/

theorem step_of_inbox_nil {s : State} (hi : s.inbox = []) : step s = idle s := by
  simp only [step, hi]

theorem step_of_inbox_cons {s : State} {e : Event} {rest : List Event} (hi : s.inbox = e :: rest) :
    step s = deliver e (beginEvent rest s) := by
  simp only [step, hi]

/-- Settles O54: `step` with and without an event, and the two phases of `decodeEvent`. -/
theorem stepRunsDecodedInstruction : Obligations.StepRunsDecodedInstruction := by
  refine ⟨fun s e rest hi => ?_, fun s hi => ?_, fun s d => ⟨fun hc => ?_, fun hc => ?_⟩⟩
  · exact step_of_inbox_cons hi
  · rw [step_of_inbox_nil hi, idle, beginEvent, hi]
  · rw [hc]
    exact ⟨rfl, rfl⟩
  · rw [hc]
    exact ⟨rfl, rfl⟩

theorem step_next (s : State) : ∃ t, step s = .next t := by
  cases hi : s.inbox with
  | nil => exact ⟨_, step_of_inbox_nil hi⟩
  | cons e rest =>
    obtain ⟨t, ht, -⟩ := deliver_reaction e (beginEvent rest s)
    exact ⟨t, (step_of_inbox_cons hi).trans ht⟩

/-- An event that needs STARTED answers a next state if its effect does. -/
theorem afterStart_next {s : State} {act : State → Outcome} (h : ∃ t, act s = .next t) : ∃ t, afterStart s act = .next t := by
  obtain ⟨-, hact⟩ | ⟨-, hmark⟩ := afterStart_cases s act
  · rwa [hact]
  · exact ⟨_, hmark⟩

theorem execRxDoneFirst_next (d : List Byte) (s : State) : ∃ t, execRxDoneFirst d s = .next t := by
  unfold execRxDoneFirst
  split
  next => exact ⟨_, rfl⟩
  next => split <;> exact ⟨_, rfl⟩

theorem execRxDoneRemainder_next (d : List Byte) (s : State) : ∃ t, execRxDoneRemainder d s = .next t := by
  unfold execRxDoneRemainder
  split
  next => exact ⟨_, rfl⟩
  next =>
    split
    next d1 d2 _ =>
      obtain ⟨-, hr⟩ | ⟨-, -, hr⟩ | ⟨-, -, hr⟩ := remainder_cases d1 d2 s
      all_goals exact ⟨_, hr⟩
    next => exact ⟨_, rfl⟩

theorem execBuildAndSend_next (s : State) : ∃ t, execBuildAndSend s = .next t := by
  unfold execBuildAndSend
  split <;> exact ⟨_, rfl⟩

theorem execTickWait_next (s : State) : ∃ t, execTickWait s = .next t := by
  unfold execTickWait
  exact afterStart_next ⟨_, rfl⟩

theorem execTickInProgress_next (s : State) : ∃ t, execTickInProgress s = .next t := by
  unfold execTickInProgress
  exact afterStart_next ⟨_, rfl⟩

theorem execFaultRecognised_next (k : TransportFault) (s : State) : ∃ t, execFaultRecognised k s = .next t := by
  unfold execFaultRecognised
  exact afterStart_next ⟨_, rfl⟩

theorem execFaultOther_next (x : Nat) (s : State) : ∃ t, execFaultOther x s = .next t :=
  afterStart_next ⟨s, rfl⟩

theorem execTxDone_next (s : State) : ∃ t, execTxDone s = .next t :=
  afterStart_next (by split <;> exact ⟨_, rfl⟩)

/-- R145: every row answers a next state. -/
theorem exec_next (i : Instr) (s : State) : ∃ t, exec i s = .next t := by
  cases i with
  | rxDoneFirst d => exact execRxDoneFirst_next d s
  | rxDoneRemainder d => exact execRxDoneRemainder_next d s
  | tickWait => exact execTickWait_next s
  | tickInProgress => exact execTickInProgress_next s
  | faultRecognised k => exact execFaultRecognised_next k s
  | faultOther x => exact execFaultOther_next x s
  | txDone => exact execTxDone_next s
  | buildAndSend => exact execBuildAndSend_next s
  | _ => exact ⟨_, rfl⟩

/-- Settles O55: every event has a reaction, and every row an outcome. -/
theorem everyStepAnswersNext : Obligations.EveryStepAnswersNext := ⟨step_next, exec_next⟩

end Sys2Proof.Machine
end
